-- ==== Sys2Proof/Syntax.lean ====
section
/-! DEFINITION. The instructions of the S802: one constructor for every row of spec/opcode_table.json. An operand
is the number its encoding field holds (30_encoding.md rules R123, R135): a register number, an immediate as
encoded (an OIMM operand is stored minus one), a branch offset as the unsigned field, the two halves of a split
immediate joined. The ten pseudo-instructions of rule R136 are constructors too; no word decodes to them. -/

namespace Sys2Proof

/-- An S802 instruction. The rule named after each constructor defines it. -/
inductive Instr
  | addu16 (rz rx : Nat)  -- `addu16 rz, rx`, rule R151
  | addu16r (rz rx ry : Nat)  -- `addu16 rz, rx, ry`, rule R152
  | addu32 (rz rx ry : Nat)  -- `addu32 rz, rx, ry`, rule R153
  | addc16 (rz rx : Nat)  -- `addc16 rz, rx`, rule R154
  | addc32 (rz rx ry : Nat)  -- `addc32 rz, rx, ry`, rule R155
  | addi16 (rz imm8 : Nat)  -- `addi16 rz, imm8`, rule R156
  | addi16r (rz rx imm3 : Nat)  -- `addi16 rz, rx, imm3`, rule R157
  | addi32 (rz rx imm12 : Nat)  -- `addi32 rz, rx, imm12`, rule R158
  | addi16sp (rz imm8 : Nat)  -- `addi16 rz, sp, imm8`, rule R159
  | addi16spsp (imm7 : Nat)  -- `addi16 sp, sp, imm7`, rule R160
  | subu16 (rz rx : Nat)  -- `subu16 rz, rx`, rule R161
  | subu16r (rz rx ry : Nat)  -- `subu16 rz, rx, ry`, rule R162
  | subu32 (rz rx ry : Nat)  -- `subu32 rz, rx, ry`, rule R163
  | subc16 (rz rx : Nat)  -- `subc16 rz, rx`, rule R164
  | subc32 (rz rx ry : Nat)  -- `subc32 rz, rx, ry`, rule R165
  | subi16 (rz imm8 : Nat)  -- `subi16 rz, imm8`, rule R166
  | subi16r (rz rx imm3 : Nat)  -- `subi16 rz, rx, imm3`, rule R167
  | subi32 (rz rx imm12 : Nat)  -- `subi32 rz, rx, imm12`, rule R168
  | subi16spsp (imm7 : Nat)  -- `subi16 sp, sp, imm7`, rule R169
  | rsub32 (rz rx ry : Nat)  -- `rsub32 rz, rx, ry`, rule R170 (pseudo-instruction)
  | ixh32 (rz rx ry : Nat)  -- `ixh32 rz, rx, ry`, rule R171
  | ixw32 (rz rx ry : Nat)  -- `ixw32 rz, rx, ry`, rule R172
  | incf32 (rz rx imm5 : Nat)  -- `incf32 rz, rx, imm5`, rule R173
  | inct32 (rz rx imm5 : Nat)  -- `inct32 rz, rx, imm5`, rule R174
  | decf32 (rz rx imm5 : Nat)  -- `decf32 rz, rx, imm5`, rule R175
  | dect32 (rz rx imm5 : Nat)  -- `dect32 rz, rx, imm5`, rule R176
  | and16 (rz rx : Nat)  -- `and16 rz, rx`, rule R191
  | and32 (rz rx ry : Nat)  -- `and32 rz, rx, ry`, rule R192
  | andi32 (rz rx imm12 : Nat)  -- `andi32 rz, rx, imm12`, rule R193
  | andn16 (rz rx : Nat)  -- `andn16 rz, rx`, rule R194
  | andn32 (rz rx ry : Nat)  -- `andn32 rz, rx, ry`, rule R195
  | andni32 (rz rx imm12 : Nat)  -- `andni32 rz, rx, imm12`, rule R196
  | or16 (rz rx : Nat)  -- `or16 rz, rx`, rule R197
  | or32 (rz rx ry : Nat)  -- `or32 rz, rx, ry`, rule R198
  | ori32 (rz rx imm16 : Nat)  -- `ori32 rz, rx, imm16`, rule R199
  | xor16 (rz rx : Nat)  -- `xor16 rz, rx`, rule R200
  | xor32 (rz rx ry : Nat)  -- `xor32 rz, rx, ry`, rule R201
  | xori32 (rz rx imm12 : Nat)  -- `xori32 rz, rx, imm12`, rule R202
  | nor16 (rz rx : Nat)  -- `nor16 rz, rx`, rule R203
  | nor32 (rz rx ry : Nat)  -- `nor32 rz, rx, ry`, rule R204
  | not16 (rz : Nat)  -- `not16 rz`, rule R205 (pseudo-instruction)
  | not32 (rz rx : Nat)  -- `not32 rz, rx`, rule R206 (pseudo-instruction)
  | lsl16 (rz rx : Nat)  -- `lsl16 rz, rx`, rule R211
  | lsl32 (rz rx ry : Nat)  -- `lsl32 rz, rx, ry`, rule R212
  | lsli16 (rz rx imm5 : Nat)  -- `lsli16 rz, rx, imm5`, rule R213
  | lsli32 (rz rx imm5 : Nat)  -- `lsli32 rz, rx, imm5`, rule R214
  | lslc32 (rz rx imm5 : Nat)  -- `lslc32 rz, rx, imm5`, rule R215
  | lsr16 (rz rx : Nat)  -- `lsr16 rz, rx`, rule R216
  | lsr32 (rz rx ry : Nat)  -- `lsr32 rz, rx, ry`, rule R217
  | lsri16 (rz rx imm5 : Nat)  -- `lsri16 rz, rx, imm5`, rule R218
  | lsri32 (rz rx imm5 : Nat)  -- `lsri32 rz, rx, imm5`, rule R219
  | lsrc32 (rz rx imm5 : Nat)  -- `lsrc32 rz, rx, imm5`, rule R220
  | asr16 (rz rx : Nat)  -- `asr16 rz, rx`, rule R221
  | asr32 (rz rx ry : Nat)  -- `asr32 rz, rx, ry`, rule R222
  | asri16 (rz rx imm5 : Nat)  -- `asri16 rz, rx, imm5`, rule R223
  | asri32 (rz rx imm5 : Nat)  -- `asri32 rz, rx, imm5`, rule R224
  | asrc32 (rz rx imm5 : Nat)  -- `asrc32 rz, rx, imm5`, rule R225
  | rotl16 (rz rx : Nat)  -- `rotl16 rz, rx`, rule R226
  | rotl32 (rz rx ry : Nat)  -- `rotl32 rz, rx, ry`, rule R227
  | rotli32 (rz rx imm5 : Nat)  -- `rotli32 rz, rx, imm5`, rule R228
  | xsr32 (rz rx imm5 : Nat)  -- `xsr32 rz, rx, imm5`, rule R229
  | cmphs16 (rx ry : Nat)  -- `cmphs16 rx, ry`, rule R241
  | cmphsi16 (rx imm5 : Nat)  -- `cmphsi16 rx, imm5`, rule R242
  | cmphsi32 (rx imm16 : Nat)  -- `cmphsi32 rx, imm16`, rule R243
  | cmplt16 (rx ry : Nat)  -- `cmplt16 rx, ry`, rule R244
  | cmplti16 (rx imm5 : Nat)  -- `cmplti16 rx, imm5`, rule R245
  | cmplti32 (rx imm16 : Nat)  -- `cmplti32 rx, imm16`, rule R246
  | cmpne16 (rx ry : Nat)  -- `cmpne16 rx, ry`, rule R247
  | cmpnei16 (rx imm5 : Nat)  -- `cmpnei16 rx, imm5`, rule R248
  | cmpnei32 (rx imm16 : Nat)  -- `cmpnei32 rx, imm16`, rule R249
  | tst16 (rx ry : Nat)  -- `tst16 rx, ry`, rule R250
  | tstnbz16 (rx : Nat)  -- `tstnbz16 rx`, rule R251
  | mov16 (rz rx : Nat)  -- `mov16 rz, rx`, rule R261
  | mov32 (rz rx : Nat)  -- `mov32 rz, rx`, rule R262 (pseudo-instruction)
  | movf32 (rz rx : Nat)  -- `movf32 rz, rx`, rule R263 (pseudo-instruction)
  | movt32 (rz rx : Nat)  -- `movt32 rz, rx`, rule R264 (pseudo-instruction)
  | movi16 (rz imm8 : Nat)  -- `movi16 rz, imm8`, rule R265
  | movi32 (rz imm16 : Nat)  -- `movi32 rz, imm16`, rule R266
  | movih32 (rz imm16 : Nat)  -- `movih32 rz, imm16`, rule R267
  | mvc32 (rz : Nat)  -- `mvc32 rz`, rule R268
  | mvcv16 (rz : Nat)  -- `mvcv16 rz`, rule R269
  | lrw16 (rz imm1 imm7 : Nat)  -- `lrw16 rz, label`, rule R270
  | lrw32 (rz off16 : Nat)  -- `lrw32 rz, off16`, rule R271
  | grs32 (rz off18 : Nat)  -- `grs32 rz, label`, rule R272
  | bclri16 (rz imm5 : Nat)  -- `bclri16 rz, imm5`, rule R281
  | bclri32 (rz rx imm5 : Nat)  -- `bclri32 rz, rx, imm5`, rule R282
  | bseti16 (rz imm5 : Nat)  -- `bseti16 rz, imm5`, rule R283
  | bseti32 (rz rx imm5 : Nat)  -- `bseti32 rz, rx, imm5`, rule R284
  | btsti16 (rx imm5 : Nat)  -- `btsti16 rx, imm5`, rule R285
  | btsti32 (rx imm5 : Nat)  -- `btsti32 rx, imm5`, rule R286
  | bgeni32 (rz imm5 : Nat)  -- `bgeni32 rz, imm5`, rule R287 (pseudo-instruction)
  | bmaski32 (rz imm5 : Nat)  -- `bmaski32 rz, imm5`, rule R288
  | ff0 (rz rx : Nat)  -- `ff0.32 rz, rx`, rule R289
  | ff1 (rz rx : Nat)  -- `ff1.32 rz, rx`, rule R290
  | xtrb0 (rz rx : Nat)  -- `xtrb0.32 rz, rx`, rule R291
  | xtrb1 (rz rx : Nat)  -- `xtrb1.32 rz, rx`, rule R292
  | xtrb2 (rz rx : Nat)  -- `xtrb2.32 rz, rx`, rule R293
  | xtrb3 (rz rx : Nat)  -- `xtrb3.32 rz, rx`, rule R294
  | zextb16 (rz rx : Nat)  -- `zextb16 rz, rx`, rule R295
  | zexth16 (rz rx : Nat)  -- `zexth16 rz, rx`, rule R296
  | sextb16 (rz rx : Nat)  -- `sextb16 rz, rx`, rule R297
  | sexth16 (rz rx : Nat)  -- `sexth16 rz, rx`, rule R298
  | mult16 (rz rx : Nat)  -- `mult16 rz, rx`, rule R299
  | mult32 (rz rx ry : Nat)  -- `mult32 rz, rx, ry`, rule R300
  | revb16 (rz rx : Nat)  -- `revb16 rz, rx`, rule R301
  | revh16 (rz rx : Nat)  -- `revh16 rz, rx`, rule R302
  | br16 (off10 : Nat)  -- `br16 label`, rule R311
  | br32 (off16 : Nat)  -- `br32 label`, rule R312
  | bt16 (off10 : Nat)  -- `bt16 label`, rule R313
  | bt32 (off16 : Nat)  -- `bt32 label`, rule R314
  | bf16 (off10 : Nat)  -- `bf16 label`, rule R315
  | jmp16 (rx : Nat)  -- `jmp16 rx`, rule R316
  | bf32 (off16 : Nat)  -- `bf32 label`, rule R317
  | jmpix16 (rx imm2 : Nat)  -- `jmpix16 rx, imm`, rule R318
  | jsr16 (rx : Nat)  -- `jsr16 rx`, rule R319
  | bsr32 (off26 : Nat)  -- `bsr32 label`, rule R320
  | rts16  -- `rts16`, rule R321 (pseudo-instruction)
  | ld16b (rz rx off5 : Nat)  -- `ld16.b rz, rx, off5`, rule R331
  | ld32b (rz rx off12 : Nat)  -- `ld32.b rz, rx, off12`, rule R332
  | ld32bs (rz rx off12 : Nat)  -- `ld32.bs rz, rx, off12`, rule R333
  | ld16h (rz rx off5 : Nat)  -- `ld16.h rz, rx, off5`, rule R334
  | ld32h (rz rx off12 : Nat)  -- `ld32.h rz, rx, off12`, rule R335
  | ld32hs (rz rx off12 : Nat)  -- `ld32.hs rz, rx, off12`, rule R336
  | ld16w (rz rx imm5 : Nat)  -- `ld16.w rz, rx, imm5`, rule R337
  | ld16wsp (rz imm8 : Nat)  -- `ld16.w rz, (sp, disp)`, rule R338
  | ld32w (rz rx off12 : Nat)  -- `ld32.w rz, rx, off12`, rule R339
  | st16b (rz rx imm5 : Nat)  -- `st16.b rz, rx, imm5`, rule R340
  | st32b (rz rx off12 : Nat)  -- `st32.b rz, rx, off12`, rule R341
  | st16h (rz rx imm5 : Nat)  -- `st16.h rz, rx, imm5`, rule R342
  | st32h (rz rx off12 : Nat)  -- `st32.h rz, rx, off12`, rule R343
  | st16w (rz rx imm5 : Nat)  -- `st16.w rz, rx, imm5`, rule R344
  | st16wsp (rz imm8 : Nat)  -- `st16.w rz, (sp, disp)`, rule R345
  | st32w (rz rx off12 : Nat)  -- `st32.w rz, rx, off12`, rule R346
  | ldm32 (ry rx imm5 : Nat)  -- `ldm32 ry-rz, (rx)`, rule R361
  | ldq32 (rx : Nat)  -- `ldq32 r4-r7, (rx)`, rule R362 (pseudo-instruction)
  | stm32 (ry rx imm5 : Nat)  -- `stm32 ry-rz, (rx)`, rule R364
  | stq32 (rx : Nat)  -- `stq32 r4-r7, (rx)`, rule R365 (pseudo-instruction)
  | push16 (r15 list1 : Nat)  -- `push16 reglist`, rule R366
  | pop16 (r15 list1 : Nat)  -- `pop16 reglist`, rule R367
  | ipush16  -- `ipush16`, rule R368
  | ipop16  -- `ipop16`, rule R369
  | nie16  -- `nie16`, rule R370
  | nir16  -- `nir16`, rule R371
  | bpush16h (rz : Nat)  -- `bpush16.h rz`, rule R380
  | bpush16w (rz : Nat)  -- `bpush16.w rz`, rule R381
  | bpop16h (rz : Nat)  -- `bpop16.h rz`, rule R382
  | bpop16w (rz : Nat)  -- `bpop16.w rz`, rule R383
  | mfcr32 (rz crx sel : Nat)  -- `mfcr32 rz, cr<crx, sel>`, rule R390
  | mtcr32 (rx crz sel : Nat)  -- `mtcr32 rx, cr<crz, sel>`, rule R391
  | rte32  -- `rte32`, rule R393
  | stop32  -- `stop32`, rule R394
  | doze32  -- `doze32`, rule R395
  | sync32  -- `sync32`, rule R396
  | wait32  -- `wait32`, rule R397
  | trap32 (n : Nat)  -- `trap32 n`, rule R399
  | bmset32  -- `bmset32`, rule R400
  | bmclr32  -- `bmclr32`, rule R401
  | bkpt16  -- `bkpt16`, rule R402
  deriving DecidableEq, Repr

end Sys2Proof
end

