-- ==== Sys2Proof/WellFormed.lean ====
section
/-! DEFINITION. Which instruction terms have an encoding: every operand fits its field (30_encoding.md rules R123
and R135), and the constraints that spec/opcode_table.json puts on a row hold. -/

namespace Sys2Proof

/-- Every operand of the instruction fits its field. -/
def Instr.wf : Instr → Bool
  | .addu16 rz rx => rz < 16 && rx < 16
  | .addu16r rz rx ry => rz < 8 && rx < 8 && ry < 8
  | .addu32 rz rx ry => rz < 32 && rx < 32 && ry < 32
  | .addc16 rz rx => rz < 16 && rx < 16
  | .addc32 rz rx ry => rz < 32 && rx < 32 && ry < 32
  | .addi16 rz imm8 => rz < 8 && imm8 < 256
  | .addi16r rz rx imm3 => rz < 8 && rx < 8 && imm3 < 8
  | .addi32 rz rx imm12 => rz < 32 && rx < 32 && imm12 < 4096
  | .addi16sp rz imm8 => rz < 8 && imm8 < 256
  | .addi16spsp imm7 => imm7 < 128
  | .subu16 rz rx => rz < 16 && rx < 16
  | .subu16r rz rx ry => rz < 8 && rx < 8 && ry < 8
  | .subu32 rz rx ry => rz < 32 && rx < 32 && ry < 32
  | .subc16 rz rx => rz < 16 && rx < 16
  | .subc32 rz rx ry => rz < 32 && rx < 32 && ry < 32
  | .subi16 rz imm8 => rz < 8 && imm8 < 256
  | .subi16r rz rx imm3 => rz < 8 && rx < 8 && imm3 < 8
  | .subi32 rz rx imm12 => rz < 32 && rx < 32 && imm12 < 4096
  | .subi16spsp imm7 => imm7 < 128
  | .rsub32 rz rx ry => rz < 32 && rx < 32 && ry < 32
  | .ixh32 rz rx ry => rz < 32 && rx < 32 && ry < 32
  | .ixw32 rz rx ry => rz < 32 && rx < 32 && ry < 32
  | .incf32 rz rx imm5 => rz < 32 && rx < 32 && imm5 < 32
  | .inct32 rz rx imm5 => rz < 32 && rx < 32 && imm5 < 32
  | .decf32 rz rx imm5 => rz < 32 && rx < 32 && imm5 < 32
  | .dect32 rz rx imm5 => rz < 32 && rx < 32 && imm5 < 32
  | .and16 rz rx => rz < 16 && rx < 16
  | .and32 rz rx ry => rz < 32 && rx < 32 && ry < 32
  | .andi32 rz rx imm12 => rz < 32 && rx < 32 && imm12 < 4096
  | .andn16 rz rx => rz < 16 && rx < 16
  | .andn32 rz rx ry => rz < 32 && rx < 32 && ry < 32
  | .andni32 rz rx imm12 => rz < 32 && rx < 32 && imm12 < 4096
  | .or16 rz rx => rz < 16 && rx < 16
  | .or32 rz rx ry => rz < 32 && rx < 32 && ry < 32
  | .ori32 rz rx imm16 => rz < 32 && rx < 32 && imm16 < 65536
  | .xor16 rz rx => rz < 16 && rx < 16
  | .xor32 rz rx ry => rz < 32 && rx < 32 && ry < 32
  | .xori32 rz rx imm12 => rz < 32 && rx < 32 && imm12 < 4096
  | .nor16 rz rx => rz < 16 && rx < 16
  | .nor32 rz rx ry => rz < 32 && rx < 32 && ry < 32
  | .not16 rz => rz < 16
  | .not32 rz rx => rz < 32 && rx < 32
  | .lsl16 rz rx => rz < 16 && rx < 16
  | .lsl32 rz rx ry => rz < 32 && rx < 32 && ry < 32
  | .lsli16 rz rx imm5 => rz < 8 && rx < 8 && imm5 < 32
  | .lsli32 rz rx imm5 => rz < 32 && rx < 32 && imm5 < 32
  | .lslc32 rz rx imm5 => rz < 32 && rx < 32 && imm5 < 32
  | .lsr16 rz rx => rz < 16 && rx < 16
  | .lsr32 rz rx ry => rz < 32 && rx < 32 && ry < 32
  | .lsri16 rz rx imm5 => rz < 8 && rx < 8 && imm5 < 32
  | .lsri32 rz rx imm5 => rz < 32 && rx < 32 && imm5 < 32
  | .lsrc32 rz rx imm5 => rz < 32 && rx < 32 && imm5 < 32
  | .asr16 rz rx => rz < 16 && rx < 16
  | .asr32 rz rx ry => rz < 32 && rx < 32 && ry < 32
  | .asri16 rz rx imm5 => rz < 8 && rx < 8 && imm5 < 32
  | .asri32 rz rx imm5 => rz < 32 && rx < 32 && imm5 < 32
  | .asrc32 rz rx imm5 => rz < 32 && rx < 32 && imm5 < 32
  | .rotl16 rz rx => rz < 16 && rx < 16
  | .rotl32 rz rx ry => rz < 32 && rx < 32 && ry < 32
  | .rotli32 rz rx imm5 => rz < 32 && rx < 32 && imm5 < 32
  | .xsr32 rz rx imm5 => rz < 32 && rx < 32 && imm5 < 32
  | .cmphs16 rx ry => rx < 16 && ry < 16
  | .cmphsi16 rx imm5 => rx < 8 && imm5 < 32
  | .cmphsi32 rx imm16 => rx < 32 && imm16 < 65536
  | .cmplt16 rx ry => rx < 16 && ry < 16
  | .cmplti16 rx imm5 => rx < 8 && imm5 < 32
  | .cmplti32 rx imm16 => rx < 32 && imm16 < 65536
  | .cmpne16 rx ry => rx < 16 && ry < 16
  | .cmpnei16 rx imm5 => rx < 8 && imm5 < 32
  | .cmpnei32 rx imm16 => rx < 32 && imm16 < 65536
  | .tst16 rx ry => rx < 16 && ry < 16
  | .tstnbz16 rx => rx < 16
  | .mov16 rz rx => rz < 16 && rx < 16
  | .mov32 rz rx => rz < 32 && rx < 32
  | .movf32 rz rx => rz < 32 && rx < 32
  | .movt32 rz rx => rz < 32 && rx < 32
  | .movi16 rz imm8 => rz < 8 && imm8 < 256
  | .movi32 rz imm16 => rz < 32 && imm16 < 65536
  | .movih32 rz imm16 => rz < 32 && imm16 < 65536
  | .mvc32 rz => rz < 32
  | .mvcv16 rz => rz < 16
  | .lrw16 rz imm1 imm7 => rz < 8 && imm1 < 2 && imm7 < 128 && (rz != 0 || imm1 != 0 || imm7 != 0)
  | .lrw32 rz off16 => rz < 32 && off16 < 65536
  | .grs32 rz off18 => rz < 32 && off18 < 262144
  | .bclri16 rz imm5 => rz < 8 && imm5 < 32
  | .bclri32 rz rx imm5 => rz < 32 && rx < 32 && imm5 < 32
  | .bseti16 rz imm5 => rz < 8 && imm5 < 32
  | .bseti32 rz rx imm5 => rz < 32 && rx < 32 && imm5 < 32
  | .btsti16 rx imm5 => rx < 8 && imm5 < 32
  | .btsti32 rx imm5 => rx < 32 && imm5 < 32
  | .bgeni32 rz imm5 => rz < 32 && imm5 < 32
  | .bmaski32 rz imm5 => rz < 32 && imm5 < 32
  | .ff0 rz rx => rz < 32 && rx < 32
  | .ff1 rz rx => rz < 32 && rx < 32
  | .xtrb0 rz rx => rz < 32 && rx < 32
  | .xtrb1 rz rx => rz < 32 && rx < 32
  | .xtrb2 rz rx => rz < 32 && rx < 32
  | .xtrb3 rz rx => rz < 32 && rx < 32
  | .zextb16 rz rx => rz < 16 && rx < 16
  | .zexth16 rz rx => rz < 16 && rx < 16
  | .sextb16 rz rx => rz < 16 && rx < 16
  | .sexth16 rz rx => rz < 16 && rx < 16
  | .mult16 rz rx => rz < 16 && rx < 16
  | .mult32 rz rx ry => rz < 32 && rx < 32 && ry < 32
  | .revb16 rz rx => rz < 16 && rx < 16
  | .revh16 rz rx => rz < 16 && rx < 16
  | .br16 off10 => off10 < 1024
  | .br32 off16 => off16 < 65536
  | .bt16 off10 => off10 < 1024
  | .bt32 off16 => off16 < 65536
  | .bf16 off10 => off10 < 1024
  | .jmp16 rx => rx < 16
  | .bf32 off16 => off16 < 65536
  | .jmpix16 rx imm2 => rx < 8 && imm2 < 4
  | .jsr16 rx => rx < 16
  | .bsr32 off26 => off26 < 67108864
  | .rts16 => true
  | .ld16b rz rx off5 => rz < 8 && rx < 8 && off5 < 32
  | .ld32b rz rx off12 => rz < 32 && rx < 32 && off12 < 4096
  | .ld32bs rz rx off12 => rz < 32 && rx < 32 && off12 < 4096
  | .ld16h rz rx off5 => rz < 8 && rx < 8 && off5 < 32
  | .ld32h rz rx off12 => rz < 32 && rx < 32 && off12 < 4096
  | .ld32hs rz rx off12 => rz < 32 && rx < 32 && off12 < 4096
  | .ld16w rz rx imm5 => rz < 8 && rx < 8 && imm5 < 32
  | .ld16wsp rz imm8 => rz < 8 && imm8 < 256
  | .ld32w rz rx off12 => rz < 32 && rx < 32 && off12 < 4096
  | .st16b rz rx imm5 => rz < 8 && rx < 8 && imm5 < 32
  | .st32b rz rx off12 => rz < 32 && rx < 32 && off12 < 4096
  | .st16h rz rx imm5 => rz < 8 && rx < 8 && imm5 < 32
  | .st32h rz rx off12 => rz < 32 && rx < 32 && off12 < 4096
  | .st16w rz rx imm5 => rz < 8 && rx < 8 && imm5 < 32
  | .st16wsp rz imm8 => rz < 8 && imm8 < 256
  | .st32w rz rx off12 => rz < 32 && rx < 32 && off12 < 4096
  | .ldm32 ry rx imm5 => ry < 32 && rx < 32 && imm5 < 32
  | .ldq32 rx => rx < 32
  | .stm32 ry rx imm5 => ry < 32 && rx < 32 && imm5 < 32
  | .stq32 rx => rx < 32
  | .push16 r15 list1 => r15 < 2 && list1 <= 8
  | .pop16 r15 list1 => r15 < 2 && list1 <= 8
  | .ipush16 => true
  | .ipop16 => true
  | .nie16 => true
  | .nir16 => true
  | .bpush16h rz => rz < 8
  | .bpush16w rz => rz < 8
  | .bpop16h rz => rz < 8
  | .bpop16w rz => rz < 8
  | .mfcr32 rz crx sel => rz < 32 && crx < 32 && sel < 32
  | .mtcr32 rx crz sel => rx < 32 && crz < 32 && sel < 32
  | .rte32 => true
  | .stop32 => true
  | .doze32 => true
  | .sync32 => true
  | .wait32 => true
  | .trap32 n => n < 4
  | .bmset32 => true
  | .bmclr32 => true
  | .bkpt16 => true

end Sys2Proof
end

