-- ==== Sys2Proof/Word.lean ====
section
/-! DEFINITION. The machine word and the byte of the S802 (00_scope.md rule R15, 10_state.md rule R20). -/

namespace Sys2Proof

/-- A 32-bit register, address or memory word. -/
abbrev Word := BitVec 32

/-- One byte of memory. -/
abbrev Byte := BitVec 8

/-- A 16-bit instruction parcel (30_encoding.md rule R120). -/
abbrev Parcel := BitVec 16

end Sys2Proof
end

