-- ==== Sys2Proof/Decode.lean ====
section
/-! DEFINITION. The decoder (30_encoding.md rules R121 and R138 to R143), total on every word, and after it the
encoder written from the same figures. An instruction word is numbered as the spec numbers it: bit 15 or bit 31 is
its most significant bit. -/

namespace Sys2Proof

/-- Why a word decodes to no instruction; 30_encoding.md rule R143 makes each an illegal instruction. -/
inductive Reject
  | unassigned16   -- no row of the 16-bit map of rule R139
  | unassigned32   -- no row of the 32-bit maps of rules R138 and R140 to R142
  | reservedField  -- a field that the figure prints as zero is not zero (rule R143 b)
  | pushList       -- push16 or pop16 with LIST1 above 1000 (rule R143 c)
  | truncated      -- fewer bytes than the instruction has
  deriving DecidableEq, Repr

/-- The field of `w` of width `len` whose lowest bit is bit `lo`. -/
def bits (w lo len : Nat) : Nat := w / 2 ^ lo % 2 ^ len

/-- `i`, if the field `f`, printed as zero, is zero. -/
def needZero (f : Nat) (i : Instr) : Except Reject Instr :=
  if f = 0 then .ok i else .error .reservedField

/-- The bytes of an instruction: 2 or 4 (rule R120). -/
def Instr.size : Instr → Nat
  | .addu16 _ _ => 2
  | .addu16r _ _ _ => 2
  | .addu32 _ _ _ => 4
  | .addc16 _ _ => 2
  | .addc32 _ _ _ => 4
  | .addi16 _ _ => 2
  | .addi16r _ _ _ => 2
  | .addi32 _ _ _ => 4
  | .addi16sp _ _ => 2
  | .addi16spsp _ => 2
  | .subu16 _ _ => 2
  | .subu16r _ _ _ => 2
  | .subu32 _ _ _ => 4
  | .subc16 _ _ => 2
  | .subc32 _ _ _ => 4
  | .subi16 _ _ => 2
  | .subi16r _ _ _ => 2
  | .subi32 _ _ _ => 4
  | .subi16spsp _ => 2
  | .rsub32 _ _ _ => 4
  | .ixh32 _ _ _ => 4
  | .ixw32 _ _ _ => 4
  | .incf32 _ _ _ => 4
  | .inct32 _ _ _ => 4
  | .decf32 _ _ _ => 4
  | .dect32 _ _ _ => 4
  | .and16 _ _ => 2
  | .and32 _ _ _ => 4
  | .andi32 _ _ _ => 4
  | .andn16 _ _ => 2
  | .andn32 _ _ _ => 4
  | .andni32 _ _ _ => 4
  | .or16 _ _ => 2
  | .or32 _ _ _ => 4
  | .ori32 _ _ _ => 4
  | .xor16 _ _ => 2
  | .xor32 _ _ _ => 4
  | .xori32 _ _ _ => 4
  | .nor16 _ _ => 2
  | .nor32 _ _ _ => 4
  | .not16 _ => 2
  | .not32 _ _ => 4
  | .lsl16 _ _ => 2
  | .lsl32 _ _ _ => 4
  | .lsli16 _ _ _ => 2
  | .lsli32 _ _ _ => 4
  | .lslc32 _ _ _ => 4
  | .lsr16 _ _ => 2
  | .lsr32 _ _ _ => 4
  | .lsri16 _ _ _ => 2
  | .lsri32 _ _ _ => 4
  | .lsrc32 _ _ _ => 4
  | .asr16 _ _ => 2
  | .asr32 _ _ _ => 4
  | .asri16 _ _ _ => 2
  | .asri32 _ _ _ => 4
  | .asrc32 _ _ _ => 4
  | .rotl16 _ _ => 2
  | .rotl32 _ _ _ => 4
  | .rotli32 _ _ _ => 4
  | .xsr32 _ _ _ => 4
  | .cmphs16 _ _ => 2
  | .cmphsi16 _ _ => 2
  | .cmphsi32 _ _ => 4
  | .cmplt16 _ _ => 2
  | .cmplti16 _ _ => 2
  | .cmplti32 _ _ => 4
  | .cmpne16 _ _ => 2
  | .cmpnei16 _ _ => 2
  | .cmpnei32 _ _ => 4
  | .tst16 _ _ => 2
  | .tstnbz16 _ => 2
  | .mov16 _ _ => 2
  | .mov32 _ _ => 4
  | .movf32 _ _ => 4
  | .movt32 _ _ => 4
  | .movi16 _ _ => 2
  | .movi32 _ _ => 4
  | .movih32 _ _ => 4
  | .mvc32 _ => 4
  | .mvcv16 _ => 2
  | .lrw16 _ _ _ => 2
  | .lrw32 _ _ => 4
  | .grs32 _ _ => 4
  | .bclri16 _ _ => 2
  | .bclri32 _ _ _ => 4
  | .bseti16 _ _ => 2
  | .bseti32 _ _ _ => 4
  | .btsti16 _ _ => 2
  | .btsti32 _ _ => 4
  | .bgeni32 _ _ => 4
  | .bmaski32 _ _ => 4
  | .ff0 _ _ => 4
  | .ff1 _ _ => 4
  | .xtrb0 _ _ => 4
  | .xtrb1 _ _ => 4
  | .xtrb2 _ _ => 4
  | .xtrb3 _ _ => 4
  | .zextb16 _ _ => 2
  | .zexth16 _ _ => 2
  | .sextb16 _ _ => 2
  | .sexth16 _ _ => 2
  | .mult16 _ _ => 2
  | .mult32 _ _ _ => 4
  | .revb16 _ _ => 2
  | .revh16 _ _ => 2
  | .br16 _ => 2
  | .br32 _ => 4
  | .bt16 _ => 2
  | .bt32 _ => 4
  | .bf16 _ => 2
  | .jmp16 _ => 2
  | .bf32 _ => 4
  | .jmpix16 _ _ => 2
  | .jsr16 _ => 2
  | .bsr32 _ => 4
  | .rts16 => 2
  | .ld16b _ _ _ => 2
  | .ld32b _ _ _ => 4
  | .ld32bs _ _ _ => 4
  | .ld16h _ _ _ => 2
  | .ld32h _ _ _ => 4
  | .ld32hs _ _ _ => 4
  | .ld16w _ _ _ => 2
  | .ld16wsp _ _ => 2
  | .ld32w _ _ _ => 4
  | .st16b _ _ _ => 2
  | .st32b _ _ _ => 4
  | .st16h _ _ _ => 2
  | .st32h _ _ _ => 4
  | .st16w _ _ _ => 2
  | .st16wsp _ _ => 2
  | .st32w _ _ _ => 4
  | .ldm32 _ _ _ => 4
  | .ldq32 _ => 4
  | .stm32 _ _ _ => 4
  | .stq32 _ => 4
  | .push16 _ _ => 2
  | .pop16 _ _ => 2
  | .ipush16 => 2
  | .ipop16 => 2
  | .nie16 => 2
  | .nir16 => 2
  | .bpush16h _ => 2
  | .bpush16w _ => 2
  | .bpop16h _ => 2
  | .bpop16w _ => 2
  | .mfcr32 _ _ _ => 4
  | .mtcr32 _ _ _ => 4
  | .rte32 => 4
  | .stop32 => 4
  | .doze32 => 4
  | .sync32 => 4
  | .wait32 => 4
  | .trap32 _ => 4
  | .bmset32 => 4
  | .bmclr32 => 4
  | .bkpt16 => 2

/-- The core instruction that a pseudo-instruction stands for (rule R136); every other instruction is itself. -/
def Instr.core : Instr → Instr
  | .addu16 rz rx => .addu16 rz rx
  | .addu16r rz rx ry => .addu16r rz rx ry
  | .addu32 rz rx ry => .addu32 rz rx ry
  | .addc16 rz rx => .addc16 rz rx
  | .addc32 rz rx ry => .addc32 rz rx ry
  | .addi16 rz imm8 => .addi16 rz imm8
  | .addi16r rz rx imm3 => .addi16r rz rx imm3
  | .addi32 rz rx imm12 => .addi32 rz rx imm12
  | .addi16sp rz imm8 => .addi16sp rz imm8
  | .addi16spsp imm7 => .addi16spsp imm7
  | .subu16 rz rx => .subu16 rz rx
  | .subu16r rz rx ry => .subu16r rz rx ry
  | .subu32 rz rx ry => .subu32 rz rx ry
  | .subc16 rz rx => .subc16 rz rx
  | .subc32 rz rx ry => .subc32 rz rx ry
  | .subi16 rz imm8 => .subi16 rz imm8
  | .subi16r rz rx imm3 => .subi16r rz rx imm3
  | .subi32 rz rx imm12 => .subi32 rz rx imm12
  | .subi16spsp imm7 => .subi16spsp imm7
  | .rsub32 rz rx ry => .subu32 rz ry rx
  | .ixh32 rz rx ry => .ixh32 rz rx ry
  | .ixw32 rz rx ry => .ixw32 rz rx ry
  | .incf32 rz rx imm5 => .incf32 rz rx imm5
  | .inct32 rz rx imm5 => .inct32 rz rx imm5
  | .decf32 rz rx imm5 => .decf32 rz rx imm5
  | .dect32 rz rx imm5 => .dect32 rz rx imm5
  | .and16 rz rx => .and16 rz rx
  | .and32 rz rx ry => .and32 rz rx ry
  | .andi32 rz rx imm12 => .andi32 rz rx imm12
  | .andn16 rz rx => .andn16 rz rx
  | .andn32 rz rx ry => .andn32 rz rx ry
  | .andni32 rz rx imm12 => .andni32 rz rx imm12
  | .or16 rz rx => .or16 rz rx
  | .or32 rz rx ry => .or32 rz rx ry
  | .ori32 rz rx imm16 => .ori32 rz rx imm16
  | .xor16 rz rx => .xor16 rz rx
  | .xor32 rz rx ry => .xor32 rz rx ry
  | .xori32 rz rx imm12 => .xori32 rz rx imm12
  | .nor16 rz rx => .nor16 rz rx
  | .nor32 rz rx ry => .nor32 rz rx ry
  | .not16 rz => .nor16 rz rz
  | .not32 rz rx => .nor32 rz rx rx
  | .lsl16 rz rx => .lsl16 rz rx
  | .lsl32 rz rx ry => .lsl32 rz rx ry
  | .lsli16 rz rx imm5 => .lsli16 rz rx imm5
  | .lsli32 rz rx imm5 => .lsli32 rz rx imm5
  | .lslc32 rz rx imm5 => .lslc32 rz rx imm5
  | .lsr16 rz rx => .lsr16 rz rx
  | .lsr32 rz rx ry => .lsr32 rz rx ry
  | .lsri16 rz rx imm5 => .lsri16 rz rx imm5
  | .lsri32 rz rx imm5 => .lsri32 rz rx imm5
  | .lsrc32 rz rx imm5 => .lsrc32 rz rx imm5
  | .asr16 rz rx => .asr16 rz rx
  | .asr32 rz rx ry => .asr32 rz rx ry
  | .asri16 rz rx imm5 => .asri16 rz rx imm5
  | .asri32 rz rx imm5 => .asri32 rz rx imm5
  | .asrc32 rz rx imm5 => .asrc32 rz rx imm5
  | .rotl16 rz rx => .rotl16 rz rx
  | .rotl32 rz rx ry => .rotl32 rz rx ry
  | .rotli32 rz rx imm5 => .rotli32 rz rx imm5
  | .xsr32 rz rx imm5 => .xsr32 rz rx imm5
  | .cmphs16 rx ry => .cmphs16 rx ry
  | .cmphsi16 rx imm5 => .cmphsi16 rx imm5
  | .cmphsi32 rx imm16 => .cmphsi32 rx imm16
  | .cmplt16 rx ry => .cmplt16 rx ry
  | .cmplti16 rx imm5 => .cmplti16 rx imm5
  | .cmplti32 rx imm16 => .cmplti32 rx imm16
  | .cmpne16 rx ry => .cmpne16 rx ry
  | .cmpnei16 rx imm5 => .cmpnei16 rx imm5
  | .cmpnei32 rx imm16 => .cmpnei32 rx imm16
  | .tst16 rx ry => .tst16 rx ry
  | .tstnbz16 rx => .tstnbz16 rx
  | .mov16 rz rx => .mov16 rz rx
  | .mov32 rz rx => .lsli32 rz rx 0
  | .movf32 rz rx => .incf32 rz rx 0
  | .movt32 rz rx => .inct32 rz rx 0
  | .movi16 rz imm8 => .movi16 rz imm8
  | .movi32 rz imm16 => .movi32 rz imm16
  | .movih32 rz imm16 => .movih32 rz imm16
  | .mvc32 rz => .mvc32 rz
  | .mvcv16 rz => .mvcv16 rz
  | .lrw16 rz imm1 imm7 => .lrw16 rz imm1 imm7
  | .lrw32 rz off16 => .lrw32 rz off16
  | .grs32 rz off18 => .grs32 rz off18
  | .bclri16 rz imm5 => .bclri16 rz imm5
  | .bclri32 rz rx imm5 => .bclri32 rz rx imm5
  | .bseti16 rz imm5 => .bseti16 rz imm5
  | .bseti32 rz rx imm5 => .bseti32 rz rx imm5
  | .btsti16 rx imm5 => .btsti16 rx imm5
  | .btsti32 rx imm5 => .btsti32 rx imm5
  | .bgeni32 rz imm5 => if imm5 < 16 then .movi32 rz (2 ^ imm5) else .movih32 rz (2 ^ (imm5 - 16))
  | .bmaski32 rz imm5 => .bmaski32 rz imm5
  | .ff0 rz rx => .ff0 rz rx
  | .ff1 rz rx => .ff1 rz rx
  | .xtrb0 rz rx => .xtrb0 rz rx
  | .xtrb1 rz rx => .xtrb1 rz rx
  | .xtrb2 rz rx => .xtrb2 rz rx
  | .xtrb3 rz rx => .xtrb3 rz rx
  | .zextb16 rz rx => .zextb16 rz rx
  | .zexth16 rz rx => .zexth16 rz rx
  | .sextb16 rz rx => .sextb16 rz rx
  | .sexth16 rz rx => .sexth16 rz rx
  | .mult16 rz rx => .mult16 rz rx
  | .mult32 rz rx ry => .mult32 rz rx ry
  | .revb16 rz rx => .revb16 rz rx
  | .revh16 rz rx => .revh16 rz rx
  | .br16 off10 => .br16 off10
  | .br32 off16 => .br32 off16
  | .bt16 off10 => .bt16 off10
  | .bt32 off16 => .bt32 off16
  | .bf16 off10 => .bf16 off10
  | .jmp16 rx => .jmp16 rx
  | .bf32 off16 => .bf32 off16
  | .jmpix16 rx imm2 => .jmpix16 rx imm2
  | .jsr16 rx => .jsr16 rx
  | .bsr32 off26 => .bsr32 off26
  | .rts16 => .jmp16 15
  | .ld16b rz rx off5 => .ld16b rz rx off5
  | .ld32b rz rx off12 => .ld32b rz rx off12
  | .ld32bs rz rx off12 => .ld32bs rz rx off12
  | .ld16h rz rx off5 => .ld16h rz rx off5
  | .ld32h rz rx off12 => .ld32h rz rx off12
  | .ld32hs rz rx off12 => .ld32hs rz rx off12
  | .ld16w rz rx imm5 => .ld16w rz rx imm5
  | .ld16wsp rz imm8 => .ld16wsp rz imm8
  | .ld32w rz rx off12 => .ld32w rz rx off12
  | .st16b rz rx imm5 => .st16b rz rx imm5
  | .st32b rz rx off12 => .st32b rz rx off12
  | .st16h rz rx imm5 => .st16h rz rx imm5
  | .st32h rz rx off12 => .st32h rz rx off12
  | .st16w rz rx imm5 => .st16w rz rx imm5
  | .st16wsp rz imm8 => .st16wsp rz imm8
  | .st32w rz rx off12 => .st32w rz rx off12
  | .ldm32 ry rx imm5 => .ldm32 ry rx imm5
  | .ldq32 rx => .ldm32 4 rx 3
  | .stm32 ry rx imm5 => .stm32 ry rx imm5
  | .stq32 rx => .stm32 4 rx 3
  | .push16 r15 list1 => .push16 r15 list1
  | .pop16 r15 list1 => .pop16 r15 list1
  | .ipush16 => .ipush16
  | .ipop16 => .ipop16
  | .nie16 => .nie16
  | .nir16 => .nir16
  | .bpush16h rz => .bpush16h rz
  | .bpush16w rz => .bpush16w rz
  | .bpop16h rz => .bpop16h rz
  | .bpop16w rz => .bpop16w rz
  | .mfcr32 rz crx sel => .mfcr32 rz crx sel
  | .mtcr32 rx crz sel => .mtcr32 rx crz sel
  | .rte32 => .rte32
  | .stop32 => .stop32
  | .doze32 => .doze32
  | .sync32 => .sync32
  | .wait32 => .wait32
  | .trap32 n => .trap32 n
  | .bmset32 => .bmset32
  | .bmclr32 => .bmclr32
  | .bkpt16 => .bkpt16

/-- Bits 15:13 and 11:10 all zero: lrw16, or bkpt16 for the all-zero word (rule R131). -/
def decodeLrw (w : Nat) : Except Reject Instr :=
  if w = 0 then .ok .bkpt16 else .ok (.lrw16 (bits w 5 3) (bits w 12 1) (bits w 8 2 * 32 + bits w 0 5))

/-- push16 and pop16: LIST1 counts at most eight registers (rule R143 c). -/
def decodeList (w : Nat) (i : Instr) : Except Reject Instr :=
  if bits w 0 4 ≤ 8 then .ok i else .error .pushList

/-- bpush16 and bpop16: bits 1:0 give the size (rule R130). -/
def decodeBct (w : Nat) (half word : Instr) : Except Reject Instr :=
  if bits w 0 2 = 0 then .ok half else if bits w 0 2 = 2 then .ok word else .error .unassigned16

/-- The stack group, bits 15:10 = 000101 (rule R130). -/
def decodeStack (w : Nat) : Except Reject Instr :=
  if bits w 5 3 = 0 then .ok (.addi16spsp (bits w 8 2 * 32 + bits w 0 5))
  else if bits w 5 3 = 1 then .ok (.subi16spsp (bits w 8 2 * 32 + bits w 0 5))
  else if bits w 8 2 ≠ 0 then .error .unassigned16
  else if bits w 5 3 = 3 then
    (if bits w 0 5 = 0 then .ok .nie16 else if bits w 0 5 = 1 then .ok .nir16
     else if bits w 0 5 = 2 then .ok .ipush16 else if bits w 0 5 = 3 then .ok .ipop16
     else .error .unassigned16)
  else if bits w 5 3 = 4 then decodeList w (.pop16 (bits w 4 1) (bits w 0 4))
  else if bits w 5 3 = 5 then decodeBct w (.bpop16h (bits w 2 3)) (.bpop16w (bits w 2 3))
  else if bits w 5 3 = 6 then decodeList w (.push16 (bits w 4 1) (bits w 0 4))
  else if bits w 5 3 = 7 then decodeBct w (.bpush16h (bits w 2 3)) (.bpush16w (bits w 2 3))
  else .error .unassigned16

/-- Bits 15:11 = 00111, by bits 7:5 (rule R128). -/
def decodeRI5 (w : Nat) : Except Reject Instr :=
  if bits w 5 3 = 0 then .ok (.cmphsi16 (bits w 8 3) (bits w 0 5))
  else if bits w 5 3 = 1 then .ok (.cmplti16 (bits w 8 3) (bits w 0 5))
  else if bits w 5 3 = 2 then .ok (.cmpnei16 (bits w 8 3) (bits w 0 5))
  else if bits w 5 3 = 4 then .ok (.bclri16 (bits w 8 3) (bits w 0 5))
  else if bits w 5 3 = 5 then .ok (.bseti16 (bits w 8 3) (bits w 0 5))
  else if bits w 5 3 = 6 then .ok (.btsti16 (bits w 8 3) (bits w 0 5))
  else if bits w 5 3 = 7 then needZero (bits w 2 3) (.jmpix16 (bits w 8 3) (bits w 0 2))
  else .error .unassigned16

/-- Bits 15:11 = 01011, by bits 1:0 (rule R127). -/
def decodeRRR (w : Nat) : Except Reject Instr :=
  if bits w 0 2 = 0 then .ok (.addu16r (bits w 5 3) (bits w 8 3) (bits w 2 3))
  else if bits w 0 2 = 1 then .ok (.subu16r (bits w 5 3) (bits w 8 3) (bits w 2 3))
  else if bits w 0 2 = 2 then .ok (.addi16r (bits w 5 3) (bits w 8 3) (bits w 2 3))
  else .ok (.subi16r (bits w 5 3) (bits w 8 3) (bits w 2 3))

/-- Bits 15:13 = 011, by bits 12:10 and 1:0 (rule R124). -/
def decodeRR (w : Nat) : Except Reject Instr :=
  let op := bits w 10 3 * 4 + bits w 0 2
  if op = 0 then .ok (.addu16 (bits w 6 4) (bits w 2 4))
  else if op = 1 then .ok (.addc16 (bits w 6 4) (bits w 2 4))
  else if op = 2 then .ok (.subu16 (bits w 6 4) (bits w 2 4))
  else if op = 3 then .ok (.subc16 (bits w 6 4) (bits w 2 4))
  else if op = 4 then .ok (.cmphs16 (bits w 2 4) (bits w 6 4))
  else if op = 5 then .ok (.cmplt16 (bits w 2 4) (bits w 6 4))
  else if op = 6 then .ok (.cmpne16 (bits w 2 4) (bits w 6 4))
  else if op = 7 then needZero (bits w 2 4) (.mvcv16 (bits w 6 4))
  else if op = 8 then .ok (.and16 (bits w 6 4) (bits w 2 4))
  else if op = 9 then .ok (.andn16 (bits w 6 4) (bits w 2 4))
  else if op = 10 then .ok (.tst16 (bits w 2 4) (bits w 6 4))
  else if op = 11 then needZero (bits w 6 4) (.tstnbz16 (bits w 2 4))
  else if op = 12 then .ok (.or16 (bits w 6 4) (bits w 2 4))
  else if op = 13 then .ok (.xor16 (bits w 6 4) (bits w 2 4))
  else if op = 14 then .ok (.nor16 (bits w 6 4) (bits w 2 4))
  else if op = 15 then .ok (.mov16 (bits w 6 4) (bits w 2 4))
  else if op = 16 then .ok (.lsl16 (bits w 6 4) (bits w 2 4))
  else if op = 17 then .ok (.lsr16 (bits w 6 4) (bits w 2 4))
  else if op = 18 then .ok (.asr16 (bits w 6 4) (bits w 2 4))
  else if op = 19 then .ok (.rotl16 (bits w 6 4) (bits w 2 4))
  else if op = 20 then .ok (.zextb16 (bits w 6 4) (bits w 2 4))
  else if op = 21 then .ok (.zexth16 (bits w 6 4) (bits w 2 4))
  else if op = 22 then .ok (.sextb16 (bits w 6 4) (bits w 2 4))
  else if op = 23 then .ok (.sexth16 (bits w 6 4) (bits w 2 4))
  else if op = 24 then needZero (bits w 6 4) (.jmp16 (bits w 2 4))
  else if op = 25 then needZero (bits w 6 4) (.jsr16 (bits w 2 4))
  else if op = 26 then .ok (.revb16 (bits w 6 4) (bits w 2 4))
  else if op = 27 then .ok (.revh16 (bits w 6 4) (bits w 2 4))
  else if op = 28 then .ok (.mult16 (bits w 6 4) (bits w 2 4))
  else .error .unassigned16

/-- A 16-bit instruction (rule R139). -/
def decode16 (w : Nat) : Except Reject Instr :=
  let op := bits w 11 5
  if op = 0 then (if bits w 10 1 = 0 then decodeLrw w else .ok (.br16 (bits w 0 10)))
  else if op = 1 then (if bits w 10 1 = 0 then .ok (.bt16 (bits w 0 10)) else .ok (.bf16 (bits w 0 10)))
  else if op = 2 then (if bits w 10 1 = 0 then decodeLrw w else decodeStack w)
  else if op = 3 then .ok (.addi16sp (bits w 8 3) (bits w 0 8))
  else if op = 4 then .ok (.addi16 (bits w 8 3) (bits w 0 8))
  else if op = 5 then .ok (.subi16 (bits w 8 3) (bits w 0 8))
  else if op = 6 then .ok (.movi16 (bits w 8 3) (bits w 0 8))
  else if op = 7 then decodeRI5 w
  else if op = 8 then .ok (.lsli16 (bits w 5 3) (bits w 8 3) (bits w 0 5))
  else if op = 9 then .ok (.lsri16 (bits w 5 3) (bits w 8 3) (bits w 0 5))
  else if op = 10 then .ok (.asri16 (bits w 5 3) (bits w 8 3) (bits w 0 5))
  else if op = 11 then decodeRRR w
  else if op = 12 ∨ op = 13 ∨ op = 14 ∨ op = 15 then decodeRR w
  else if op = 16 then .ok (.ld16b (bits w 5 3) (bits w 8 3) (bits w 0 5))
  else if op = 17 then .ok (.ld16h (bits w 5 3) (bits w 8 3) (bits w 0 5))
  else if op = 18 then .ok (.ld16w (bits w 5 3) (bits w 8 3) (bits w 0 5))
  else if op = 19 then .ok (.ld16wsp (bits w 5 3) (bits w 8 3 * 32 + bits w 0 5))
  else if op = 20 then .ok (.st16b (bits w 5 3) (bits w 8 3) (bits w 0 5))
  else if op = 21 then .ok (.st16h (bits w 5 3) (bits w 8 3) (bits w 0 5))
  else if op = 22 then .ok (.st16w (bits w 5 3) (bits w 8 3) (bits w 0 5))
  else if op = 23 then .ok (.st16wsp (bits w 5 3) (bits w 8 3 * 32 + bits w 0 5))
  else .error .unassigned16

/-- Bits 31:26 = 110001, by bits 15:5 (rule R140). -/
def decodeReg (w : Nat) : Except Reject Instr :=
  let op := bits w 5 11
  if op = 0x1 then .ok (.addu32 (bits w 0 5) (bits w 16 5) (bits w 21 5))
  else if op = 0x2 then .ok (.addc32 (bits w 0 5) (bits w 16 5) (bits w 21 5))
  else if op = 0x4 then .ok (.subu32 (bits w 0 5) (bits w 16 5) (bits w 21 5))
  else if op = 0x8 then .ok (.subc32 (bits w 0 5) (bits w 16 5) (bits w 21 5))
  else if op = 0x41 then .ok (.ixh32 (bits w 0 5) (bits w 16 5) (bits w 21 5))
  else if op = 0x42 then .ok (.ixw32 (bits w 0 5) (bits w 16 5) (bits w 21 5))
  else if op = 0x61 then .ok (.incf32 (bits w 21 5) (bits w 16 5) (bits w 0 5))
  else if op = 0x62 then .ok (.inct32 (bits w 21 5) (bits w 16 5) (bits w 0 5))
  else if op = 0x64 then .ok (.decf32 (bits w 21 5) (bits w 16 5) (bits w 0 5))
  else if op = 0x68 then .ok (.dect32 (bits w 21 5) (bits w 16 5) (bits w 0 5))
  else if op = 0x101 then .ok (.and32 (bits w 0 5) (bits w 16 5) (bits w 21 5))
  else if op = 0x102 then .ok (.andn32 (bits w 0 5) (bits w 16 5) (bits w 21 5))
  else if op = 0x121 then .ok (.or32 (bits w 0 5) (bits w 16 5) (bits w 21 5))
  else if op = 0x122 then .ok (.xor32 (bits w 0 5) (bits w 16 5) (bits w 21 5))
  else if op = 0x124 then .ok (.nor32 (bits w 0 5) (bits w 16 5) (bits w 21 5))
  else if op = 0x201 then .ok (.lsl32 (bits w 0 5) (bits w 16 5) (bits w 21 5))
  else if op = 0x241 then .ok (.lsli32 (bits w 0 5) (bits w 16 5) (bits w 21 5))
  else if op = 0x261 then .ok (.lslc32 (bits w 0 5) (bits w 16 5) (bits w 21 5))
  else if op = 0x202 then .ok (.lsr32 (bits w 0 5) (bits w 16 5) (bits w 21 5))
  else if op = 0x242 then .ok (.lsri32 (bits w 0 5) (bits w 16 5) (bits w 21 5))
  else if op = 0x262 then .ok (.lsrc32 (bits w 0 5) (bits w 16 5) (bits w 21 5))
  else if op = 0x204 then .ok (.asr32 (bits w 0 5) (bits w 16 5) (bits w 21 5))
  else if op = 0x244 then .ok (.asri32 (bits w 0 5) (bits w 16 5) (bits w 21 5))
  else if op = 0x264 then .ok (.asrc32 (bits w 0 5) (bits w 16 5) (bits w 21 5))
  else if op = 0x208 then .ok (.rotl32 (bits w 0 5) (bits w 16 5) (bits w 21 5))
  else if op = 0x248 then .ok (.rotli32 (bits w 0 5) (bits w 16 5) (bits w 21 5))
  else if op = 0x268 then .ok (.xsr32 (bits w 0 5) (bits w 16 5) (bits w 21 5))
  else if op = 0x28 then needZero (bits w 16 10) (.mvc32 (bits w 0 5))
  else if op = 0x141 then .ok (.bclri32 (bits w 0 5) (bits w 16 5) (bits w 21 5))
  else if op = 0x142 then .ok (.bseti32 (bits w 0 5) (bits w 16 5) (bits w 21 5))
  else if op = 0x144 then needZero (bits w 0 5) (.btsti32 (bits w 16 5) (bits w 21 5))
  else if op = 0x281 then needZero (bits w 16 5) (.bmaski32 (bits w 0 5) (bits w 21 5))
  else if op = 0x3e1 then needZero (bits w 21 5) (.ff0 (bits w 0 5) (bits w 16 5))
  else if op = 0x3e2 then needZero (bits w 21 5) (.ff1 (bits w 0 5) (bits w 16 5))
  else if op = 0x381 then needZero (bits w 21 5) (.xtrb0 (bits w 0 5) (bits w 16 5))
  else if op = 0x382 then needZero (bits w 21 5) (.xtrb1 (bits w 0 5) (bits w 16 5))
  else if op = 0x384 then needZero (bits w 21 5) (.xtrb2 (bits w 0 5) (bits w 16 5))
  else if op = 0x388 then needZero (bits w 21 5) (.xtrb3 (bits w 0 5) (bits w 16 5))
  else if op = 0x421 then .ok (.mult32 (bits w 0 5) (bits w 16 5) (bits w 21 5))
  else .error .unassigned32

/-- Bits 31:26 = 110000, by bits 15:5 (rule R141). -/
def decodeControl (w : Nat) : Except Reject Instr :=
  let op := bits w 5 11
  if op = 0x301 then .ok (.mfcr32 (bits w 0 5) (bits w 16 5) (bits w 21 5))
  else if op = 0x321 then .ok (.mtcr32 (bits w 16 5) (bits w 0 5) (bits w 21 5))
  else if op = 0x201 then needZero (bits w 16 10 + bits w 0 5) .rte32
  else if op = 0x241 then needZero (bits w 16 10 + bits w 0 5) .stop32
  else if op = 0x281 then needZero (bits w 16 10 + bits w 0 5) .doze32
  else if op = 0x21 then needZero (bits w 16 10 + bits w 0 5) .sync32
  else if op = 0x261 then needZero (bits w 16 10 + bits w 0 5) .wait32
  else if op = 0x101 then needZero (bits w 16 10 + bits w 0 5) (.trap32 (bits w 10 2))
  else if op = 0x121 then needZero (bits w 16 10 + bits w 0 5) (.trap32 (bits w 10 2))
  else if op = 0x141 then needZero (bits w 16 10 + bits w 0 5) (.trap32 (bits w 10 2))
  else if op = 0x161 then needZero (bits w 16 10 + bits w 0 5) (.trap32 (bits w 10 2))
  else if op = 0x81 then needZero (bits w 16 10 + bits w 0 5) .bmset32
  else if op = 0xa1 then needZero (bits w 16 10 + bits w 0 5) .bmclr32
  else .error .unassigned32

/-- Bits 31:26 = 111010, by bits 25:21 (rule R142). -/
def decodeI16 (w : Nat) : Except Reject Instr :=
  let op := bits w 21 5
  if op = 24 then .ok (.cmphsi32 (bits w 16 5) (bits w 0 16))
  else if op = 25 then .ok (.cmplti32 (bits w 16 5) (bits w 0 16))
  else if op = 26 then .ok (.cmpnei32 (bits w 16 5) (bits w 0 16))
  else if op = 16 then .ok (.movi32 (bits w 16 5) (bits w 0 16))
  else if op = 17 then .ok (.movih32 (bits w 16 5) (bits w 0 16))
  else if op = 20 then .ok (.lrw32 (bits w 16 5) (bits w 0 16))
  else if op = 0 then needZero (bits w 16 5) (.br32 (bits w 0 16))
  else if op = 3 then needZero (bits w 16 5) (.bt32 (bits w 0 16))
  else if op = 2 then needZero (bits w 16 5) (.bf32 (bits w 0 16))
  else .error .unassigned32

/-- Immediate arithmetic, loads and stores, by bits 15:12 (rules R138 and R133). -/
def decodeArith12 (w : Nat) : Except Reject Instr :=
  if bits w 12 4 = 0 then .ok (.addi32 (bits w 21 5) (bits w 16 5) (bits w 0 12))
  else if bits w 12 4 = 1 then .ok (.subi32 (bits w 21 5) (bits w 16 5) (bits w 0 12))
  else if bits w 12 4 = 2 then .ok (.andi32 (bits w 21 5) (bits w 16 5) (bits w 0 12))
  else if bits w 12 4 = 3 then .ok (.andni32 (bits w 21 5) (bits w 16 5) (bits w 0 12))
  else if bits w 12 4 = 4 then .ok (.xori32 (bits w 21 5) (bits w 16 5) (bits w 0 12))
  else .error .unassigned32

/-- 32-bit loads (rule R347). -/
def decodeLoad12 (w : Nat) : Except Reject Instr :=
  if bits w 12 4 = 0 then .ok (.ld32b (bits w 21 5) (bits w 16 5) (bits w 0 12))
  else if bits w 12 4 = 4 then .ok (.ld32bs (bits w 21 5) (bits w 16 5) (bits w 0 12))
  else if bits w 12 4 = 1 then .ok (.ld32h (bits w 21 5) (bits w 16 5) (bits w 0 12))
  else if bits w 12 4 = 5 then .ok (.ld32hs (bits w 21 5) (bits w 16 5) (bits w 0 12))
  else if bits w 12 4 = 2 then .ok (.ld32w (bits w 21 5) (bits w 16 5) (bits w 0 12))
  else .error .unassigned32

/-- 32-bit stores (rule R347). -/
def decodeStore12 (w : Nat) : Except Reject Instr :=
  if bits w 12 4 = 0 then .ok (.st32b (bits w 21 5) (bits w 16 5) (bits w 0 12))
  else if bits w 12 4 = 1 then .ok (.st32h (bits w 21 5) (bits w 16 5) (bits w 0 12))
  else if bits w 12 4 = 2 then .ok (.st32w (bits w 21 5) (bits w 16 5) (bits w 0 12))
  else .error .unassigned32

/-- A 32-bit instruction, by bits 31:26 (rule R138). -/
def decode32 (w : Nat) : Except Reject Instr :=
  let op := bits w 26 6
  if op = 48 then decodeControl w
  else if op = 49 then decodeReg w
  else if op = 51 then (if bits w 18 3 = 3 then .ok (.grs32 (bits w 21 5) (bits w 0 18)) else .error .unassigned32)
  else if op = 52 then (if bits w 5 11 = 0xe1 then .ok (.ldm32 (bits w 21 5) (bits w 16 5) (bits w 0 5)) else .error .unassigned32)
  else if op = 53 then (if bits w 5 11 = 0xe1 then .ok (.stm32 (bits w 21 5) (bits w 16 5) (bits w 0 5)) else .error .unassigned32)
  else if op = 54 then decodeLoad12 w
  else if op = 55 then decodeStore12 w
  else if op = 56 then .ok (.bsr32 (bits w 0 26))
  else if op = 57 then decodeArith12 w
  else if op = 58 then decodeI16 w
  else if op = 59 then .ok (.ori32 (bits w 21 5) (bits w 16 5) (bits w 0 16))
  else .error .unassigned32

/-- The length rule R121: a first parcel with bits 15:14 = 11 begins a 32-bit instruction. -/
def isLong (h0 : Nat) : Bool := bits h0 14 2 == 3

/-- Decode from the first parcel and, for a 32-bit instruction, the second (rule R121). -/
def decodeParcels (h0 h1 : Nat) : Except Reject Instr :=
  if isLong h0 then decode32 (h0 * 65536 + h1) else decode16 h0

/-- Decode the bytes at an instruction's address, lowest address first, each parcel little endian (20_memory.md rule
R73). -/
def decodeBytes : List Byte → Except Reject Instr
  | b0 :: b1 :: rest =>
    let h0 := b0.toNat + 256 * b1.toNat
    if isLong h0 then
      match rest with
      | b2 :: b3 :: _ => decodeParcels h0 (b2.toNat + 256 * b3.toNat)
      | _ => .error .truncated
    else decodeParcels h0 0
  | _ => .error .truncated

/-- The instruction as one number, its most significant bit first, from the encoding of its rule. -/
def encodeCore : Instr → Nat
  | .addu16 rz rx => 0x6000 + rz * 0x40 + rx * 0x4
  | .addu16r rz rx ry => 0x5800 + rx * 0x100 + rz * 0x20 + ry * 0x4
  | .addu32 rz rx ry => 0xc4000020 + ry * 0x200000 + rx * 0x10000 + rz
  | .addc16 rz rx => 0x6001 + rz * 0x40 + rx * 0x4
  | .addc32 rz rx ry => 0xc4000040 + ry * 0x200000 + rx * 0x10000 + rz
  | .addi16 rz imm8 => 0x2000 + rz * 0x100 + imm8
  | .addi16r rz rx imm3 => 0x5802 + rx * 0x100 + rz * 0x20 + imm3 * 0x4
  | .addi32 rz rx imm12 => 0xe4000000 + rz * 0x200000 + rx * 0x10000 + imm12
  | .addi16sp rz imm8 => 0x1800 + rz * 0x100 + imm8
  | .addi16spsp imm7 => 0x1400 + imm7 / 32 * 0x100 + imm7 % 32
  | .subu16 rz rx => 0x6002 + rz * 0x40 + rx * 0x4
  | .subu16r rz rx ry => 0x5801 + rx * 0x100 + rz * 0x20 + ry * 0x4
  | .subu32 rz rx ry => 0xc4000080 + ry * 0x200000 + rx * 0x10000 + rz
  | .subc16 rz rx => 0x6003 + rz * 0x40 + rx * 0x4
  | .subc32 rz rx ry => 0xc4000100 + ry * 0x200000 + rx * 0x10000 + rz
  | .subi16 rz imm8 => 0x2800 + rz * 0x100 + imm8
  | .subi16r rz rx imm3 => 0x5803 + rx * 0x100 + rz * 0x20 + imm3 * 0x4
  | .subi32 rz rx imm12 => 0xe4001000 + rz * 0x200000 + rx * 0x10000 + imm12
  | .subi16spsp imm7 => 0x1420 + imm7 / 32 * 0x100 + imm7 % 32
  | .rsub32 _ _ _ => 0  -- encoded as its core instruction
  | .ixh32 rz rx ry => 0xc4000820 + ry * 0x200000 + rx * 0x10000 + rz
  | .ixw32 rz rx ry => 0xc4000840 + ry * 0x200000 + rx * 0x10000 + rz
  | .incf32 rz rx imm5 => 0xc4000c20 + rz * 0x200000 + rx * 0x10000 + imm5
  | .inct32 rz rx imm5 => 0xc4000c40 + rz * 0x200000 + rx * 0x10000 + imm5
  | .decf32 rz rx imm5 => 0xc4000c80 + rz * 0x200000 + rx * 0x10000 + imm5
  | .dect32 rz rx imm5 => 0xc4000d00 + rz * 0x200000 + rx * 0x10000 + imm5
  | .and16 rz rx => 0x6800 + rz * 0x40 + rx * 0x4
  | .and32 rz rx ry => 0xc4002020 + ry * 0x200000 + rx * 0x10000 + rz
  | .andi32 rz rx imm12 => 0xe4002000 + rz * 0x200000 + rx * 0x10000 + imm12
  | .andn16 rz rx => 0x6801 + rz * 0x40 + rx * 0x4
  | .andn32 rz rx ry => 0xc4002040 + ry * 0x200000 + rx * 0x10000 + rz
  | .andni32 rz rx imm12 => 0xe4003000 + rz * 0x200000 + rx * 0x10000 + imm12
  | .or16 rz rx => 0x6c00 + rz * 0x40 + rx * 0x4
  | .or32 rz rx ry => 0xc4002420 + ry * 0x200000 + rx * 0x10000 + rz
  | .ori32 rz rx imm16 => 0xec000000 + rz * 0x200000 + rx * 0x10000 + imm16
  | .xor16 rz rx => 0x6c01 + rz * 0x40 + rx * 0x4
  | .xor32 rz rx ry => 0xc4002440 + ry * 0x200000 + rx * 0x10000 + rz
  | .xori32 rz rx imm12 => 0xe4004000 + rz * 0x200000 + rx * 0x10000 + imm12
  | .nor16 rz rx => 0x6c02 + rz * 0x40 + rx * 0x4
  | .nor32 rz rx ry => 0xc4002480 + ry * 0x200000 + rx * 0x10000 + rz
  | .not16 _ => 0  -- encoded as its core instruction
  | .not32 _ _ => 0  -- encoded as its core instruction
  | .lsl16 rz rx => 0x7000 + rz * 0x40 + rx * 0x4
  | .lsl32 rz rx ry => 0xc4004020 + ry * 0x200000 + rx * 0x10000 + rz
  | .lsli16 rz rx imm5 => 0x4000 + rx * 0x100 + rz * 0x20 + imm5
  | .lsli32 rz rx imm5 => 0xc4004820 + imm5 * 0x200000 + rx * 0x10000 + rz
  | .lslc32 rz rx imm5 => 0xc4004c20 + imm5 * 0x200000 + rx * 0x10000 + rz
  | .lsr16 rz rx => 0x7001 + rz * 0x40 + rx * 0x4
  | .lsr32 rz rx ry => 0xc4004040 + ry * 0x200000 + rx * 0x10000 + rz
  | .lsri16 rz rx imm5 => 0x4800 + rx * 0x100 + rz * 0x20 + imm5
  | .lsri32 rz rx imm5 => 0xc4004840 + imm5 * 0x200000 + rx * 0x10000 + rz
  | .lsrc32 rz rx imm5 => 0xc4004c40 + imm5 * 0x200000 + rx * 0x10000 + rz
  | .asr16 rz rx => 0x7002 + rz * 0x40 + rx * 0x4
  | .asr32 rz rx ry => 0xc4004080 + ry * 0x200000 + rx * 0x10000 + rz
  | .asri16 rz rx imm5 => 0x5000 + rx * 0x100 + rz * 0x20 + imm5
  | .asri32 rz rx imm5 => 0xc4004880 + imm5 * 0x200000 + rx * 0x10000 + rz
  | .asrc32 rz rx imm5 => 0xc4004c80 + imm5 * 0x200000 + rx * 0x10000 + rz
  | .rotl16 rz rx => 0x7003 + rz * 0x40 + rx * 0x4
  | .rotl32 rz rx ry => 0xc4004100 + ry * 0x200000 + rx * 0x10000 + rz
  | .rotli32 rz rx imm5 => 0xc4004900 + imm5 * 0x200000 + rx * 0x10000 + rz
  | .xsr32 rz rx imm5 => 0xc4004d00 + imm5 * 0x200000 + rx * 0x10000 + rz
  | .cmphs16 rx ry => 0x6400 + ry * 0x40 + rx * 0x4
  | .cmphsi16 rx imm5 => 0x3800 + rx * 0x100 + imm5
  | .cmphsi32 rx imm16 => 0xeb000000 + rx * 0x10000 + imm16
  | .cmplt16 rx ry => 0x6401 + ry * 0x40 + rx * 0x4
  | .cmplti16 rx imm5 => 0x3820 + rx * 0x100 + imm5
  | .cmplti32 rx imm16 => 0xeb200000 + rx * 0x10000 + imm16
  | .cmpne16 rx ry => 0x6402 + ry * 0x40 + rx * 0x4
  | .cmpnei16 rx imm5 => 0x3840 + rx * 0x100 + imm5
  | .cmpnei32 rx imm16 => 0xeb400000 + rx * 0x10000 + imm16
  | .tst16 rx ry => 0x6802 + ry * 0x40 + rx * 0x4
  | .tstnbz16 rx => 0x6803 + rx * 0x4
  | .mov16 rz rx => 0x6c03 + rz * 0x40 + rx * 0x4
  | .mov32 _ _ => 0  -- encoded as its core instruction
  | .movf32 _ _ => 0  -- encoded as its core instruction
  | .movt32 _ _ => 0  -- encoded as its core instruction
  | .movi16 rz imm8 => 0x3000 + rz * 0x100 + imm8
  | .movi32 rz imm16 => 0xea000000 + rz * 0x10000 + imm16
  | .movih32 rz imm16 => 0xea200000 + rz * 0x10000 + imm16
  | .mvc32 rz => 0xc4000500 + rz
  | .mvcv16 rz => 0x6403 + rz * 0x40
  | .lrw16 rz imm1 imm7 => imm1 * 0x1000 + imm7 / 32 * 0x100 + rz * 0x20 + imm7 % 32
  | .lrw32 rz off16 => 0xea800000 + rz * 0x10000 + off16
  | .grs32 rz off18 => 0xcc0c0000 + rz * 0x200000 + off18
  | .bclri16 rz imm5 => 0x3880 + rz * 0x100 + imm5
  | .bclri32 rz rx imm5 => 0xc4002820 + imm5 * 0x200000 + rx * 0x10000 + rz
  | .bseti16 rz imm5 => 0x38a0 + rz * 0x100 + imm5
  | .bseti32 rz rx imm5 => 0xc4002840 + imm5 * 0x200000 + rx * 0x10000 + rz
  | .btsti16 rx imm5 => 0x38c0 + rx * 0x100 + imm5
  | .btsti32 rx imm5 => 0xc4002880 + imm5 * 0x200000 + rx * 0x10000
  | .bgeni32 _ _ => 0  -- encoded as its core instruction
  | .bmaski32 rz imm5 => 0xc4005020 + imm5 * 0x200000 + rz
  | .ff0 rz rx => 0xc4007c20 + rx * 0x10000 + rz
  | .ff1 rz rx => 0xc4007c40 + rx * 0x10000 + rz
  | .xtrb0 rz rx => 0xc4007020 + rx * 0x10000 + rz
  | .xtrb1 rz rx => 0xc4007040 + rx * 0x10000 + rz
  | .xtrb2 rz rx => 0xc4007080 + rx * 0x10000 + rz
  | .xtrb3 rz rx => 0xc4007100 + rx * 0x10000 + rz
  | .zextb16 rz rx => 0x7400 + rz * 0x40 + rx * 0x4
  | .zexth16 rz rx => 0x7401 + rz * 0x40 + rx * 0x4
  | .sextb16 rz rx => 0x7402 + rz * 0x40 + rx * 0x4
  | .sexth16 rz rx => 0x7403 + rz * 0x40 + rx * 0x4
  | .mult16 rz rx => 0x7c00 + rz * 0x40 + rx * 0x4
  | .mult32 rz rx ry => 0xc4008420 + ry * 0x200000 + rx * 0x10000 + rz
  | .revb16 rz rx => 0x7802 + rz * 0x40 + rx * 0x4
  | .revh16 rz rx => 0x7803 + rz * 0x40 + rx * 0x4
  | .br16 off10 => 0x400 + off10
  | .br32 off16 => 0xe8000000 + off16
  | .bt16 off10 => 0x800 + off10
  | .bt32 off16 => 0xe8600000 + off16
  | .bf16 off10 => 0xc00 + off10
  | .jmp16 rx => 0x7800 + rx * 0x4
  | .bf32 off16 => 0xe8400000 + off16
  | .jmpix16 rx imm2 => 0x38e0 + rx * 0x100 + imm2
  | .jsr16 rx => 0x7801 + rx * 0x4
  | .bsr32 off26 => 0xe0000000 + off26
  | .rts16 => 0  -- encoded as its core instruction
  | .ld16b rz rx off5 => 0x8000 + rx * 0x100 + rz * 0x20 + off5
  | .ld32b rz rx off12 => 0xd8000000 + rz * 0x200000 + rx * 0x10000 + off12
  | .ld32bs rz rx off12 => 0xd8004000 + rz * 0x200000 + rx * 0x10000 + off12
  | .ld16h rz rx off5 => 0x8800 + rx * 0x100 + rz * 0x20 + off5
  | .ld32h rz rx off12 => 0xd8001000 + rz * 0x200000 + rx * 0x10000 + off12
  | .ld32hs rz rx off12 => 0xd8005000 + rz * 0x200000 + rx * 0x10000 + off12
  | .ld16w rz rx imm5 => 0x9000 + rx * 0x100 + rz * 0x20 + imm5
  | .ld16wsp rz imm8 => 0x9800 + imm8 / 32 * 0x100 + rz * 0x20 + imm8 % 32
  | .ld32w rz rx off12 => 0xd8002000 + rz * 0x200000 + rx * 0x10000 + off12
  | .st16b rz rx imm5 => 0xa000 + rx * 0x100 + rz * 0x20 + imm5
  | .st32b rz rx off12 => 0xdc000000 + rz * 0x200000 + rx * 0x10000 + off12
  | .st16h rz rx imm5 => 0xa800 + rx * 0x100 + rz * 0x20 + imm5
  | .st32h rz rx off12 => 0xdc001000 + rz * 0x200000 + rx * 0x10000 + off12
  | .st16w rz rx imm5 => 0xb000 + rx * 0x100 + rz * 0x20 + imm5
  | .st16wsp rz imm8 => 0xb800 + imm8 / 32 * 0x100 + rz * 0x20 + imm8 % 32
  | .st32w rz rx off12 => 0xdc002000 + rz * 0x200000 + rx * 0x10000 + off12
  | .ldm32 ry rx imm5 => 0xd0001c20 + ry * 0x200000 + rx * 0x10000 + imm5
  | .ldq32 _ => 0  -- encoded as its core instruction
  | .stm32 ry rx imm5 => 0xd4001c20 + ry * 0x200000 + rx * 0x10000 + imm5
  | .stq32 _ => 0  -- encoded as its core instruction
  | .push16 r15 list1 => 0x14c0 + r15 * 0x10 + list1
  | .pop16 r15 list1 => 0x1480 + r15 * 0x10 + list1
  | .ipush16 => 0x1462
  | .ipop16 => 0x1463
  | .nie16 => 0x1460
  | .nir16 => 0x1461
  | .bpush16h rz => 0x14e0 + rz * 0x4
  | .bpush16w rz => 0x14e2 + rz * 0x4
  | .bpop16h rz => 0x14a0 + rz * 0x4
  | .bpop16w rz => 0x14a2 + rz * 0x4
  | .mfcr32 rz crx sel => 0xc0006020 + sel * 0x200000 + crx * 0x10000 + rz
  | .mtcr32 rx crz sel => 0xc0006420 + sel * 0x200000 + rx * 0x10000 + crz
  | .rte32 => 0xc0004020
  | .stop32 => 0xc0004820
  | .doze32 => 0xc0005020
  | .sync32 => 0xc0000420
  | .wait32 => 0xc0004c20
  | .trap32 n => 0xc0002020 + n * 0x400
  | .bmset32 => 0xc0001020
  | .bmclr32 => 0xc0001420
  | .bkpt16 => 0

/-- The word of an instruction; a pseudo-instruction has its core instruction's word (rule R136). -/
def encodeWord (i : Instr) : Nat := encodeCore i.core

/-- A parcel as two bytes, the lower address first. -/
def parcelBytes (h : Nat) : List Byte := [BitVec.ofNat 8 h, BitVec.ofNat 8 (h / 256)]

/-- The bytes of a well-formed instruction in memory, lowest address first: a 32-bit instruction's first parcel
holds its bits 31:16 (20_memory.md rule R73, little endian). -/
def encode (i : Instr) : List Byte :=
  if i.core.size = 2 then parcelBytes (encodeWord i)
  else parcelBytes (encodeWord i / 65536) ++ parcelBytes (encodeWord i % 65536)

/-- The bytes in memory of an instruction whose bits are `w`, numbered as spec/opcode_table.json numbers them: a
32-bit row is one number with the opcode in bits 31:26, so its bits 31:16 are the first parcel (assumption 51). -/
def tableBytes (nbits w : Nat) : List Byte :=
  if nbits ≤ 16 then parcelBytes w ++ parcelBytes 0
  else parcelBytes (w / 65536) ++ parcelBytes (w % 65536)

/-- The instruction the decoder reads from an opcode-table word. -/
def decodeTableWord (nbits w : Nat) : Option Instr :=
  match decodeBytes (tableBytes nbits w) with
  | .ok i => some i
  | .error _ => none

end Sys2Proof
end

