-- ==== Sys2Proof/Config.lean ====
section
/-! DEFINITION. What one implementation of the S802 fixes (93_implementation_defined.md Part 3) and the free
values of the model, constants without a body that nothing can evaluate. -/

namespace Sys2Proof

/-- The cache sizes that can be configured (20_memory.md rule R105). -/
inductive CacheSize
  | absent | kb2 | kb4 | kb8
  deriving DecidableEq, Repr

/-- The interrupt controllers that can be configured (60_exceptions.md rule R452). -/
inductive VicKind
  | absent | int16 | int32
  deriving DecidableEq, Repr

/-- What answers at an address outside the core's own registers (20_memory.md rule R89, 92_eei_decisions.md OPEN-1). -/
inductive RegionKind
  | ram              -- memory, read and written
  | rom              -- memory that answers a write with ERROR (assumption 5)
  | device           -- a device: a read gives an open value, a write changes no value in the core (assumption 5)
  | value (v : Word) -- a device whose read function gives `v` now
  | error            -- every transfer is answered with ERROR
  | silent           -- no transfer is ever answered (70_reset_and_hazards.md rule R490)
  deriving DecidableEq, Repr

/-- One range of the platform's address map. A transfer whose attributes (20_memory.md rule R88) are `p.2` where the
mask `p.1` is set, for a `p` in `refuse`, is answered with ERROR. -/
structure Region where
  base : Nat
  size : Nat
  kind : RegionKind
  refuse : List (BitVec 4 × BitVec 4)
  deriving DecidableEq, Repr

/-- The mechanisms of the security extension unit that are configured (60_exceptions.md rule R464). -/
structure SeuConfig where
  /-- Random instructions: HRII. -/
  randomInstr : Bool
  /-- Constant-time multiply: FM, with the slow multiplier only. -/
  constMultiply : Bool
  /-- Bus data parity: BP. -/
  busParity : Bool
  /-- Random execution cycles: RBI. -/
  randomCycles : Bool
  /-- Random clock noise: RGCN. -/
  clockNoise : Bool
  /-- Constant-time branches: FB. -/
  constBranch : Bool
  /-- Polarity inversion: POL and POL_FREQ. -/
  polarity : Bool
  deriving DecidableEq, Repr

/-- The parameters of 93_implementation_defined.md Part 3. `CFG_TEE` is fixed false (20_memory.md rule R93) and
has no field. -/
structure Config where
  /-- `CFG_MPU_REGIONS`, 0 to 8. -/
  mpuRegions : Nat
  /-- `CFG_CACHE`. -/
  cache : CacheSize
  /-- `CFG_CACHE_REGIONS`, 0 to 4. -/
  cacheRegions : Nat
  /-- `CFG_MULT_FAST`: timing only (45_bitops.md rule R299). -/
  multFast : Bool
  /-- `CFG_LSU_FAST_RETIRE`: timing only (70_reset_and_hazards.md rule R491). -/
  lsuFastRetire : Bool
  /-- `CFG_SECURITY`: SECR and the security violation state. -/
  security : Bool
  /-- The mechanisms of the security extension unit. -/
  seu : SeuConfig
  /-- The option of an external general-register reset (10_state.md rule R25). -/
  gprReset : Bool
  /-- `CFG_TCIP`. -/
  tcip : Bool
  /-- `CFG_VIC`. -/
  vic : VicKind
  /-- `CFG_CORETIM`: its registers are in no rule (60_exceptions.md rule R454). -/
  coreTim : Bool
  /-- `CFG_IBUS`. -/
  ibus : Bool
  /-- `CFG_SYSBUS`: the system bus is always present (20_memory.md rule R85). -/
  sysbus : Bool
  /-- `IBUS_BASE`. -/
  ibusBase : BitVec 12
  /-- `IBUS_MASK`. -/
  ibusMask : BitVec 12
  /-- `CFG_BCT`: binary code translation. -/
  bct : Bool
  /-- `CFG_INT_SP`: interrupt stack pointer. -/
  intSp : Bool
  /-- `CFG_NEST`: NIE, NIR, IPUSH, IPOP. -/
  nest : Bool
  /-- `CFG_UNALIGNED_HW`. -/
  unalignedHw : Bool
  /-- `CFG_GCR_WIDTH`, 0 to 32. -/
  gcrWidth : Nat
  /-- `CFG_GSR_WIDTH`, 0 to 32. -/
  gsrWidth : Nat
  /-- `CFG_STACK_GUARD`. -/
  stackGuard : Bool
  /-- `CFG_VBR`. -/
  vbr : Bool
  /-- `CFG_SRST_VAL`, the software reset key. -/
  srstVal : BitVec 16
  /-- `CPUID_VALUE`. -/
  cpuid : Word
  /-- `BIG_ENDIAN`. -/
  bigEndian : Bool
  /-- `BE_V2`. -/
  beV2 : Bool
  /-- The clock ratio minus one that CCR.SCK reads (10_state.md rule R53). -/
  sck : BitVec 3
  /-- `SECR_ADDR`. -/
  secrAddr : Word
  /-- `SMC_COHERENT` (20_memory.md rule R107). -/
  smcCoherent : Bool
  /-- `END_PC` (70_reset_and_hazards.md rule R498). -/
  endPc : Option Word
  /-- `SGCR_SGE_BIT` (92_eei_decisions.md OPEN-3). -/
  sgeBit : Nat
  /-- `SGCR_SGP_BIT` (92_eei_decisions.md OPEN-3). -/
  sgpBit : Nat
  /-- `CIR_INV_ONE_BIT` (92_eei_decisions.md OPEN-4). -/
  cirInvOneBit : Nat
  /-- `CIR_INV_ADDR_LSB` (92_eei_decisions.md OPEN-4). -/
  cirInvAddrLsb : Nat
  /-- `CHR_SRST_LSB`. -/
  chrSrstLsb : Nat
  /-- `CHR_ISE_BIT`. -/
  chrIseBit : Nat
  /-- `CHR_IAE_BIT`. -/
  chrIaeBit : Nat
  /-- `CCR_BE_BIT`. -/
  ccrBeBit : Nat
  /-- `CCR_SCK_LSB`. -/
  ccrSckLsb : Nat
  /-- `CCR_BEV2_BIT`. -/
  ccrBeV2Bit : Nat
  /-- The platform's address map; the first range that holds an address decides (assumption 5). -/
  platform : List Region
  deriving DecidableEq, Repr

/-- The parameter values the spec allows: at most 8 MPU regions and 4 cacheable regions, widths up to 32, SGE and
SGP at two different bits and ISE and IAE too, the system bus present; and INV_ONE below INV_ADDR (DESIGN CHOICE,
assumption 11). -/
def Config.wf (c : Config) : Bool :=
  c.mpuRegions ≤ 8 && c.cacheRegions ≤ 4 && c.gcrWidth ≤ 32 && c.gsrWidth ≤ 32 && c.sysbus
    && c.sgeBit < 32 && c.sgpBit < 32 && c.sgeBit != c.sgpBit
    && c.cirInvOneBit != 0 && c.cirInvOneBit < c.cirInvAddrLsb && c.cirInvAddrLsb < 32
    && c.chrSrstLsb ≤ 16 && c.chrIseBit < 32 && c.chrIaeBit < 32 && c.chrIseBit != c.chrIaeBit

/-- The configuration the model resets into: every option present, little endian, RAM everywhere outside the
tightly coupled IP range, and for the pins a clock ratio of 1:1 (SCK = 0), BE_V2 = 1 and the instruction bus window
0x000 with mask 0xE00 (DESIGN CHOICE, assumptions 1 and 5; 10_state.md rule R53). No statement rests on it: the
statements are about every configuration. -/
def Config.default : Config where
  mpuRegions := 8
  cache := .kb8
  cacheRegions := 4
  multFast := true
  lsuFastRetire := false
  security := true
  seu := ⟨true, true, true, true, true, true, true⟩
  gprReset := true
  tcip := true
  vic := .int32
  coreTim := true
  ibus := true
  sysbus := true
  ibusBase := 0x000
  ibusMask := 0xE00
  bct := true
  intSp := true
  nest := true
  unalignedHw := true
  gcrWidth := 32
  gsrWidth := 32
  stackGuard := true
  vbr := true
  srstVal := 0xABCD
  cpuid := 0
  bigEndian := false
  beV2 := true
  sck := 0
  secrAddr := 0xE000EFA0
  smcCoherent := false
  endPc := none
  sgeBit := 0
  sgpBit := 1
  cirInvOneBit := 1
  cirInvAddrLsb := 4
  chrSrstLsb := 16
  chrIseBit := 14
  chrIaeBit := 4
  ccrBeBit := 7
  ccrSckLsb := 8
  ccrBeV2Bit := 13
  platform := [⟨0, 0xE0000000, .ram, []⟩, ⟨0xF0000000, 0x10000000, .ram, []⟩]

/-- A free word: which one the spec leaves open. The first argument is the step's count (`State.free`), the second
says which of the step's open values it is (assumption 47). -/
opaque Config.freeWord : Nat → Nat → Word

/-- A free choice between two outcomes, drawn like `Config.freeWord`. -/
opaque Config.freeBit : Nat → Nat → Bool

end Sys2Proof
end

