-- ==== Sys2Proof/Machine/State.lean ====
section
/-! DEFINITION. The state of the S802 as plain data (10_state.md), the reasons a step can stop, and the state right
after reset. -/

namespace Sys2Proof.Machine

/-- Byte-addressed memory in one canonical form: addresses strictly rising, and no entry equal to
`Memory.unlisted` (assumption 4). -/
abbrev Memory := List Host.Cell

/-- What an address with no entry reads as (DESIGN CHOICE, assumption 4). -/
def Memory.unlisted : Byte := 0

/-- The run states (60_exceptions.md rule R459); the three low-power states differ outside the core only. -/
inductive RunState
  | normal
  | stop
  | doze
  | wait
  | debug
  | violation
  deriving DecidableEq, Repr

/-- How far a stored location is on its way to being visible to the fetch (20_memory.md rule R107). -/
inductive FetchStage
  | stored       -- stored to, nothing done about it yet
  | invalidated  -- the cache has been invalidated since
  | synced       -- and a SYNC executed since; the next control transfer makes it visible
  deriving DecidableEq, Repr

/-- A byte address stored to and not yet made visible to the fetch. -/
structure Stale where
  addr : Nat
  stage : FetchStage
  deriving DecidableEq, Repr

/-- The addresses from `lo` up to, not including, `hi`. -/
structure Span where
  lo : Nat
  hi : Nat
  deriving DecidableEq, Repr

/-- What the system does with its devices and memory when the core is reset (70_reset_and_hazards.md rules R471, R472):
which ranges answer how from then on (none: as before), and the bytes it writes, in order. -/
structure SystemReset where
  answers : Option (List Region)
  writes : List (Word × Byte)
  deriving DecidableEq, Repr

/-- The system keeps its devices and memory as they are. -/
def SystemReset.keep : SystemReset := ⟨none, []⟩

/-- What the environment does next (70_reset_and_hazards.md rule R499). -/
inductive Move
  | run                                  -- nothing: the core takes a step
  | cut (transfers : Nat)                -- the pending interrupt is taken inside the next instruction (rule R445)
  | reset                                -- the reset input (rule R470)
  | resetIn (transfers : Nat)            -- the reset input inside the next instruction, after so many transfers
  | irq (vector : BitVec 8)              -- an interrupt request with its vector (60_exceptions.md rule R440)
  | irqOff                               -- the request is withdrawn
  | wake                                 -- the fast interrupt input, which only ends low power (rule R465)
  | gsr (value : Word)                   -- the GSR input (10_state.md rule R46)
  | debugRequest                         -- a debug request (60_exceptions.md rule R460)
  | debugResume                          -- the debugger releases the core (rule R462)
  | debugReg (n : Nat) (value : Word)    -- the debugger writes a general register (rule R461)
  | debugCr (n sel : Nat) (value : Word) -- the debugger writes a control register
  | debugPc (value : Word)               -- the debugger writes the PC
  | debugMem (addr : Word) (value : Byte) -- the debugger writes memory
  | debugTcip (addr value : Word)        -- the debugger writes a tightly coupled register
  | debugDp (value : Bool)               -- the debugger writes the pending address-watch bit
  | hadFdb (value : Bool)                -- the debugger sets CSR.FDB (rule R421)
  | hadMbee (value : Bool)               -- the debugger sets CSR.MBEE (rule R422)
  | watch                                -- an address-watch hit at this boundary (rule R422)
  | memWrite (addr : Word) (value : Byte) -- another bus master writes memory
  | between (writes : List (List (Word × Byte))) -- another bus master's writes after each coming transfer
  | answers (regions : List Region)      -- the platform answers in these ranges so from now on
  | onReset (reply : SystemReset)        -- what the system does at the next reset of the core (rule R472)
  | gprReset                             -- the general-register reset input (10_state.md rule R25)
  | violation                            -- a security violation is detected (60_exceptions.md rule R463)
  deriving DecidableEq, Repr

/-- What raises an exception (60_exceptions.md rule R410). -/
inductive Cause
  | misaligned
  | accessError
  | illegal
  | privilege
  | breakpoint
  | addressWatch
  | softReset  -- a software reset requested with PSR.EE = 0 (10_state.md rule R48)
  | trap (n : Nat)
  | interrupt (vector : BitVec 8)
  deriving DecidableEq, Repr

/-- The machine can make no further progress. -/
inductive Fault
  /-- Raised by exception entry when the read of vector 8's word fails too (92_eei_decisions.md D30). Safe: the
  spec says the run is stuck. -/
  | stuckVectorRead
  /-- Raised by a reset when the read of the word at address 0 fails (92_eei_decisions.md D30). Safe: the spec says
  the run is stuck. -/
  | stuckResetVector
  /-- Raised by an access whose transfer is never answered (20_memory.md rule R89, 70_reset_and_hazards.md rule R490).
  Safe: the spec says the run is stuck. -/
  | stuckBus
  deriving DecidableEq, Repr

/-- The spec gives the run no meaning. -/
inductive Refusal
  /-- An arm of `exec` whose instruction has no meaning yet. Safe. No arm raises it. -/
  | notModelled (mnemonic : String)
  /-- An instruction names a general register that does not exist (92_eei_decisions.md D2). Safe. -/
  | unimplementedRegister
  /-- MFCR or MTCR names a control register that does not exist (92_eei_decisions.md D4). Safe. -/
  | unimplementedControlRegister
  /-- bmaski32 with IMM5 below 16 (92_eei_decisions.md D21). Safe. -/
  | bmaskiSmall
  /-- ldm32 with its base register in the range it loads (93_implementation_defined.md U13). Safe. -/
  | ldmBaseInRange
  /-- BPUSH or BPOP with PSR.BM = 0 (92_eei_decisions.md D24). Safe. -/
  | bctModeOff
  /-- An access with CCR.MP = 10 or 11 (93_implementation_defined.md U7). Safe. -/
  | mpuModeReserved
  /-- An access checked against a region of reserved size or unaligned base (93_implementation_defined.md U5, U6).
  Safe. -/
  | mpuRegionReserved
  /-- An access checked against a cacheable region of reserved size (20_memory.md rule R112), or of unaligned base
  (DESIGN CHOICE, assumption 63). Safe. -/
  | cacheRegionReserved
  /-- A CRU or SEU access that no rule describes (93_implementation_defined.md U11). Safe. -/
  | reservedTcipAccess
  /-- An access to a tightly coupled address that has no register in the spec and no device of the platform
  (60_exceptions.md rule R458). Safe. -/
  | tcipDevice
  /-- An instruction fetch in big-endian mode with BE_V2 = 0 (93_implementation_defined.md U9). Safe. -/
  | fetchByteOrder
  /-- A fetch of a parcel that was stored to and not made visible (92_eei_decisions.md D15). Safe. -/
  | staleFetch
  /-- The environment did what the spec says it never does (60_exceptions.md rule R415). Safe. -/
  | environment
  deriving DecidableEq, Repr

/-- Everything the spec gives the machine, and the environment's part of it. -/
structure State where
  /-- The configuration; no step changes it (assumption 1). -/
  cfg : Config
  /-- R0 to R13 (10_state.md rule R20). -/
  r : Vector Word 14
  /-- R15, the link register (rule R21). -/
  lr : Word
  /-- The user bank of R14, CR<14,1> (rules R23, R51). -/
  userSp : Word
  /-- The supervisor bank of R14 (rule R23). -/
  spvSp : Word
  /-- The interrupt bank of R14, CR<15,1> (rules R23, R52). -/
  intSp : Word
  /-- R23, FP', with `CFG_BCT` (rule R22). -/
  fpB : Word
  /-- R24, TOP, with `CFG_BCT`. -/
  top : Word
  /-- R25, BSP, with `CFG_BCT`. -/
  bsp : Word
  /-- R30, SVBR, with `CFG_BCT`. -/
  svbr : Word
  /-- The program counter (rules R26, R27). -/
  pc : Word
  /-- CR<0,0> (rule R32). -/
  psr : Word
  /-- CR<1,0> (rule R42). -/
  vbr : Word
  /-- CR<2,0> (rule R43). -/
  epsr : Word
  /-- CR<4,0> (rule R44). -/
  epc : Word
  /-- CR<11,0> (rule R45). -/
  gcr : Word
  /-- The input port that CR<12,0> reads (rule R46). -/
  gsr : Word
  /-- CHR.ISE (rule R49). -/
  chrIse : Bool
  /-- CHR.IAE (rule R50). -/
  chrIae : Bool
  /-- CCR.MP (rule R53). -/
  ccrMp : BitVec 2
  /-- CR<19,0> (rule R54). -/
  capr : Word
  /-- The PACR word of each MPU region (rules R55, R57). -/
  pacr : Vector Word 8
  /-- PRSR.RID (rule R56). -/
  prsr : BitVec 3
  /-- SGCR.SGE (rule R58). -/
  sgcrSge : Bool
  /-- SGCR.SGP (rule R58). -/
  sgcrSgp : Bool
  /-- CR<1,4> (rule R59). -/
  sgtr : Word
  /-- CR<2,4> (rule R59). -/
  sgbr : Word
  /-- CR<6,4> (rule R60). -/
  sgistr : Word
  /-- CR<7,4> (rule R60). -/
  sgisbr : Word
  /-- CER, 0xE000F000 (20_memory.md rule R110). -/
  cer : Word
  /-- CIR, 0xE000F004, has been written since reset: its readback is then open (rule R111). -/
  cirWritten : Bool
  /-- CRCR0 to CRCR3 (rule R112). -/
  crcr : Vector Word 4
  /-- SECR (60_exceptions.md rule R464). -/
  secr : Word
  /-- The pending address-watch bit DP (60_exceptions.md rule R437). -/
  dpPending : Bool
  /-- The debugger's CSR.FDB, `HAD_FDB` (rule R421). -/
  hadFdb : Bool
  /-- The debugger's CSR.MBEE (rule R422). -/
  hadMbee : Bool
  /-- The interrupt request and its vector, as the environment presents them (rule R440). -/
  irq : Option (BitVec 8)
  /-- The run state (rule R459). -/
  run : RunState
  /-- Where the cache may hold a line: what has been filled since the last invalidation, and anything after a reset
  (10_state.md rule R62, 20_memory.md rule R108, assumption 12). -/
  held : List Span
  /-- Where a line of the cache may differ from memory, so that a hit there gives an open value (assumption 12). -/
  old : List Span
  /-- Memory. -/
  mem : Memory
  /-- The locations stored to and not yet made visible to the fetch (20_memory.md rule R107). -/
  stale : List Stale
  /-- The ranges the environment has set over the platform's map (70_reset_and_hazards.md rule R499, assumption 5). -/
  answers : List Region
  /-- What another bus master writes after each of the coming transfers of multi-access instructions (20_memory.md rule
  R81). The model's own field (assumption 41). -/
  between : List (List (Word × Byte))
  /-- The last step requested a software reset: the event that the platform sees, for one step (70_reset_and_hazards.md
  rule R472). -/
  resetRequest : Bool
  /-- What the system does at the next reset of the core (rules R471, R472). The model's own field (assumption 65). -/
  onReset : SystemReset
  /-- What the environment does in the coming steps, first move first; with none left the core only runs. The model's
  own field (assumption 7). -/
  moves : List Move
  /-- The number of steps taken, to which the free values are applied. The model's own field (assumption 47). -/
  free : Nat
  deriving DecidableEq, Repr

/-- The value the model gives a register at reset where the spec gives none (DESIGN CHOICE, assumption 2). -/
def State.unspecified : Word := 0

/-- The machine right after reset (10_state.md rule R63), with nothing in memory: the word at address 0 then reads
0, so the reset vector is 0. -/
def State.reset : State where
  cfg := Config.default
  r := Vector.replicate 14 State.unspecified
  lr := State.unspecified
  userSp := State.unspecified
  spvSp := State.unspecified
  intSp := State.unspecified
  fpB := State.unspecified
  top := State.unspecified
  bsp := State.unspecified
  svbr := State.unspecified
  pc := 0
  psr := 0x80000000
  vbr := 0
  epsr := State.unspecified
  epc := State.unspecified
  gcr := State.unspecified
  gsr := 0
  chrIse := false
  chrIae := false
  ccrMp := 0
  capr := 0
  pacr := Vector.replicate 8 State.unspecified
  prsr := 0
  sgcrSge := false
  sgcrSgp := false
  sgtr := State.unspecified
  sgbr := State.unspecified
  sgistr := State.unspecified
  sgisbr := State.unspecified
  cer := 0
  cirWritten := false
  crcr := Vector.replicate 4 0
  secr := State.unspecified
  dpPending := false
  hadFdb := false
  hadMbee := false
  irq := none
  run := .normal
  held := [⟨0, 2 ^ 32⟩]
  old := [⟨0, 2 ^ 32⟩]
  mem := []
  stale := []
  answers := []
  between := []
  resetRequest := false
  onReset := SystemReset.keep
  moves := []
  free := 0

end Sys2Proof.Machine
end

