-- ==== Sys2Proof/Machine/Memory.lean ====
section
/-! DEFINITION. Memory: reading and writing one byte, the canonical form, and accesses of a byte, a halfword or a
word in the core's byte order (20_memory.md rules R70, R71, R81). -/

namespace Sys2Proof.Machine

/-- The access sizes of the bus (rule R81). -/
inductive Width
  | byte | half | word
  deriving DecidableEq, Repr

/-- How many bytes an access moves. -/
def Width.bytes : Width → Nat
  | .byte => 1
  | .half => 2
  | .word => 4

/-- The byte at address `a`. -/
def Memory.read : Memory → Nat → Byte
  | [], _ => Memory.unlisted
  | c :: m, a => if c.1 = a then c.2 else Memory.read m a

/-- Put an entry in its place in a list without one for its address. -/
def Memory.place : Memory → Nat → Byte → Memory
  | [], a, b => [(a, b)]
  | c :: m, a, b => if a < c.1 then (a, b) :: c :: m else c :: Memory.place m a b

/-- Write the byte at address `a`; writing what an unlisted address reads as removes the entry. -/
def Memory.write (m : Memory) (a : Nat) (b : Byte) : Memory :=
  let rest := m.filter (fun c => c.1 ≠ a)
  if b = Memory.unlisted then rest else Memory.place rest a b

/-- The canonical form: addresses strictly rising and inside the 32-bit space, no entry equal to the unlisted
byte. -/
def Memory.wf (m : Memory) : Bool :=
  decide (m.Pairwise (fun c d => c.1 < d.1)) && m.all (fun c => c.1 < 2 ^ 32 && c.2 != Memory.unlisted)

/-- The byte at a 32-bit address. -/
def Memory.byteAt (m : Memory) (a : Word) : Byte := Memory.read m a.toNat

/-- Write the byte at a 32-bit address. -/
def Memory.setByte (m : Memory) (a : Word) (b : Byte) : Memory := Memory.write m a.toNat b

/-- What `MemRead(a, n)` reads, zero extended: the byte at the lowest address is the least significant one in
little-endian mode and the most significant one in big-endian mode (rule R71). -/
def Memory.load (m : Memory) (bigEndian : Bool) (a : Word) : Width → Word
  | .byte => (Memory.byteAt m a).setWidth 32
  | .half =>
    let b0 := Memory.byteAt m a
    let b1 := Memory.byteAt m (a + 1)
    if bigEndian then (b0 ++ b1).setWidth 32 else (b1 ++ b0).setWidth 32
  | .word =>
    let b0 := Memory.byteAt m a
    let b1 := Memory.byteAt m (a + 1)
    let b2 := Memory.byteAt m (a + 2)
    let b3 := Memory.byteAt m (a + 3)
    if bigEndian then b0 ++ b1 ++ b2 ++ b3 else b3 ++ b2 ++ b1 ++ b0

/-- What `MemWrite(a, n, v)` leaves: the low bytes of `v` in the order that `Memory.load` reads (rule R71). -/
def Memory.store (m : Memory) (bigEndian : Bool) (a : Word) (v : Word) : Width → Memory
  | .byte => Memory.setByte m a (v.extractLsb' 0 8)
  | .half =>
    let lo := v.extractLsb' 0 8
    let hi := v.extractLsb' 8 8
    if bigEndian then Memory.setByte (Memory.setByte m a hi) (a + 1) lo
    else Memory.setByte (Memory.setByte m a lo) (a + 1) hi
  | .word =>
    let b0 := v.extractLsb' 0 8
    let b1 := v.extractLsb' 8 8
    let b2 := v.extractLsb' 16 8
    let b3 := v.extractLsb' 24 8
    if bigEndian then
      Memory.setByte (Memory.setByte (Memory.setByte (Memory.setByte m a b3) (a + 1) b2) (a + 2) b1) (a + 3) b0
    else
      Memory.setByte (Memory.setByte (Memory.setByte (Memory.setByte m a b0) (a + 1) b1) (a + 2) b2) (a + 3) b3

/-- Address `x` is one of the `w.bytes` bytes from `a` on. -/
def Width.covers (w : Width) (a x : Word) : Bool := (x - a).toNat < w.bytes

/-- The address is a multiple of the access size (rule R74). -/
def Width.aligned (w : Width) (a : Word) : Bool := a.toNat % w.bytes == 0

/-- The address with the low bits of the access size cleared (rule R77). -/
def Width.alignDown (w : Width) (a : Word) : Word := a - BitVec.ofNat 32 (a.toNat % w.bytes)

end Sys2Proof.Machine
end

