-- ==== Sys2Proof/Machine/Psr.lean ====
section
/-! DEFINITION. The fields of PSR and of the other control registers that hold several fields (10_state.md rules R32
to R58), and the bits each register implements. -/

namespace Sys2Proof.Machine

/-- `w` with bit `i` set to `b`. -/
def setBit (w : Word) (i : Nat) (b : Bool) : Word :=
  if b then w ||| (1#32 <<< i) else w &&& ~~~(1#32 <<< i)

/-- PSR.S: supervisor mode (rule R33). -/
def State.psrS (s : State) : Bool := s.psr.getLsbD 31

/-- PSR.VEC (rule R34). -/
def State.psrVec (s : State) : BitVec 8 := s.psr.extractLsb' 16 8

/-- PSR.MM: misaligned accesses do not trap (rule R35). -/
def State.psrMM (s : State) : Bool := s.psr.getLsbD 9

/-- PSR.EE: exceptions enabled (rule R36). -/
def State.psrEE (s : State) : Bool := s.psr.getLsbD 8

/-- PSR.IC: interrupts inside a multi-access instruction (rule R37). -/
def State.psrIC (s : State) : Bool := s.psr.getLsbD 7

/-- PSR.IE: interrupts enabled (rule R38). -/
def State.psrIE (s : State) : Bool := s.psr.getLsbD 6

/-- PSR.BM: binary code translation mode (rule R39). -/
def State.psrBM (s : State) : Bool := s.psr.getLsbD 2

/-- PSR.C: the condition and carry bit (rule R29). -/
def State.psrC (s : State) : Bool := s.psr.getLsbD 0

/-- The bits PSR and EPSR implement: S, VEC, MM, EE, IC, IE, C, and BM with `CFG_BCT` (rules R32, R39, R43). -/
def psrMask (c : Config) : Word := if c.bct then 0x80FF03C5 else 0x80FF03C1

/-- Bits 31:10: the base VBR implements (rule R42). -/
def vbrMask : Word := 0xFFFFFC00

/-- Base, Size and E of PACR: bit 6 is reserved (rule R55). -/
def pacrMask : Word := 0xFFFFFFBF

/-- Base, Size and EN of CRCR: bits 9:6 are reserved (20_memory.md rule R112). -/
def crcrMask : Word := 0xFFFFFC3F

/-- The fields of SECR whose mechanism is configured (60_exceptions.md rule R464). -/
def secrMask (c : Config) : Word :=
  field (c.seu.randomInstr || c.seu.randomCycles) 0x000F000F
    ||| field c.seu.randomInstr 0x00000010
    ||| field (c.seu.constMultiply && !c.multFast) 0x00000040
    ||| field c.seu.busParity 0x00000080
    ||| field c.seu.randomCycles 0x00000100
    ||| field c.seu.clockNoise 0x00000200
    ||| field c.seu.constBranch 0x00000800
    ||| field c.seu.polarity 0x01F01000
where
  /-- The bits, if the mechanism is configured. -/
  field (b : Bool) (m : Word) : Word := if b then m else 0

/-- The low `n` bits: the bits a register of configurable width implements (rule R45). -/
def lowMask (n : Nat) : Word := BitVec.ofNat 32 (2 ^ n - 1)

/-- The fields of CAPR that belong to the first `n` regions (rule R54). -/
def caprMask (n : Nat) : Word := lowMask n ||| (lowMask (2 * n) <<< 8) ||| (lowMask n <<< 24)

/-- `psr` with the condition bit set to `b`. -/
def psrWithC (psr : Word) (b : Bool) : Word := setBit psr 0 b

/-- PSR on exception entry: S is 1, VEC the vector, EE and IE 0, every other field kept (60_exceptions.md rule
R425). -/
def psrEnter (psr : Word) (vec : BitVec 8) : Word :=
  (psr &&& ~~~0x80FF0140#32) ||| 0x80000000#32 ||| (vec.setWidth 32 <<< 16)

/-- The state with PSR.C set to `b`. -/
def State.setC (s : State) (b : Bool) : State := { s with psr := psrWithC s.psr b }

/-- The state with PSR.BM set to `b` (49_system.md rules R400, R401). -/
def State.setBM (s : State) (b : Bool) : State := { s with psr := setBit s.psr 2 b }

/-- The state with PSR written whole: reserved bits stay 0 (rule R40). -/
def State.setPsr (s : State) (w : Word) : State := { s with psr := w &&& psrMask s.cfg }

/-- PACR.E of region word `p` (rule R55). -/
def regionEnabled (p : Word) : Bool := p.getLsbD 0

/-- The Size field, bits 5:1, of a PACR or CRCR word: the region has 2 ^ (Size + 1) bytes. -/
def regionSize (p : Word) : Nat := (p.extractLsb' 1 5).toNat

/-- The base, given the low bits that are not part of it: 7 in PACR, 10 in CRCR. -/
def regionBase (p : Word) (low : Nat) : Nat := p.toNat / 2 ^ low * 2 ^ low

/-- The base is a multiple of the region's size (rules R55, R112). -/
def regionAligned (p : Word) (low : Nat) : Bool := regionBase p low % 2 ^ (regionSize p + 1) == 0

/-- Address `a` lies in the region: its bits above the size are those of the base (20_memory.md rule R94). -/
def regionHolds (p : Word) (low : Nat) (a : Word) : Bool :=
  a.toNat / 2 ^ (regionSize p + 1) == regionBase p low / 2 ^ (regionSize p + 1)

end Sys2Proof.Machine
end

