-- ==== Sys2Proof/Machine/Registers.lean ====
section
/-! DEFINITION. The general registers: which numbers name a register, the banks of R14, reading and writing
(10_state.md rules R20 to R24), and the program counter (rules R26 to R28). -/

namespace Sys2Proof.Machine

/-- The three registers that can stand behind R14 (rule R23). -/
inductive Bank
  | user | supervisor | interrupt
  deriving DecidableEq, Repr

/-- The bank of R14 that the current PSR selects (rule R23). -/
def State.bank14 (s : State) : Bank :=
  if s.psrS = false then .user
  else if s.cfg.intSp && s.chrIse && decide (32 ≤ s.psrVec.toNat) then .interrupt
  else .supervisor

/-- The register number names a register of this implementation (rule R24). -/
def State.hasReg (s : State) (n : Nat) : Bool :=
  n < 16 || (s.cfg.bct && (n == 23 || n == 24 || n == 25 || n == 30))

/-- The stack pointer R14 now names. -/
def State.sp (s : State) : Word :=
  match s.bank14 with
  | .user => s.userSp
  | .supervisor => s.spvSp
  | .interrupt => s.intSp

/-- General register `n` (rules R20, R22, R23). -/
def State.reg (s : State) (n : Nat) : Word :=
  if h : n < 14 then s.r[n]
  else if n = 14 then s.sp
  else if n = 15 then s.lr
  else if n = 23 then s.fpB
  else if n = 24 then s.top
  else if n = 25 then s.bsp
  else if n = 30 then s.svbr
  else 0

/-- Write general register `n`; R14 is the current bank (rules R20, R22, R23). -/
def State.setReg (s : State) (n : Nat) (v : Word) : State :=
  { s with
    r := s.r.setIfInBounds n v
    lr := if n = 15 then v else s.lr
    userSp := if n = 14 ∧ s.bank14 = .user then v else s.userSp
    spvSp := if n = 14 ∧ s.bank14 = .supervisor then v else s.spvSp
    intSp := if n = 14 ∧ s.bank14 = .interrupt then v else s.intSp
    fpB := if n = 23 then v else s.fpB
    top := if n = 24 then v else s.top
    bsp := if n = 25 then v else s.bsp
    svbr := if n = 30 then v else s.svbr }

/-- Write several registers, one after the other. -/
def State.setRegs (s : State) : List (Nat × Word) → State
  | [] => s
  | p :: ps => (s.setReg p.1 p.2).setRegs ps

/-- Go on to the instruction `len` bytes on (rules R27, R28). -/
def State.advance (s : State) (len : Nat) : State := { s with pc := s.pc + BitVec.ofNat 32 len }

/-- Bit 0 of an address dropped, as every control transfer does (rule R26). -/
def evenAddr (a : Word) : Word := a &&& 0xFFFFFFFE

/-- A control transfer to `a`: bit 0 is dropped, and stores made visible by a SYNC before it may now be fetched
(rule R26, 20_memory.md rule R107). -/
def State.jump (s : State) (a : Word) : State :=
  { s with pc := evenAddr a, stale := s.stale.filter (fun x => x.stage ≠ .synced) }

end Sys2Proof.Machine
end

