-- ==== Sys2Proof/Machine/Access.lean ====
section
/-! DEFINITION. One access of the core: the checks of 20_memory.md rule R78 in their order, then the bus (rules R83 to
R89), the tightly coupled registers (rules R109 to R112, 60_exceptions.md rule R464) and the cache (rules R105 to
R113). -/

namespace Sys2Proof.Machine

/-- What an access does (rule R96). -/
inductive AccessKind
  | read | write | fetch
  deriving DecidableEq, Repr

/-- Why an access is not performed: an exception of the instruction, no meaning in the spec, or a transfer that is never
answered. -/
inductive Abort
  | raise (c : Cause)
  | refuse (r : Refusal)
  | stuck
  deriving DecidableEq, Repr

/-! ### Stack guard -/

/-- The bounds, lower then upper, that guard an access made from R14 now, if any (rules R101, R103). -/
def State.guardBounds (s : State) : Option (Word × Word) :=
  if s.cfg.stackGuard && s.sgcrSge then
    if s.bank14 = .interrupt then some (s.sgisbr, s.sgistr)
    else if s.sgcrSgp = s.psrS then some (s.sgbr, s.sgtr)
    else none
  else none

/-- The access of `n` bytes at `a` leaves the guarded range (rule R102), on unbounded integers. -/
def State.guardFails (s : State) (a : Word) (n : Nat) : Bool :=
  match s.guardBounds with
  | none => false
  | some (lo, hi) => decide (a.toNat < lo.toNat) || decide (hi.toNat < a.toNat + n)

/-! ### Memory protection unit -/

/-- The PACR word of region `i`. -/
def State.region (s : State) (i : Nat) : Word := s.pacr[i]?.getD 0

/-- The region that controls address `a`: the highest enabled one below `i` that holds it (rule R95). A region of
reserved size or unaligned base has no meaning for an access checked against it (93_implementation_defined.md U5,
U6). -/
def State.mpuRegion (s : State) (a : Word) : Nat → Except Abort (Option Nat)
  | 0 => .ok none
  | i + 1 =>
    let p := s.region i
    if regionEnabled p = false then s.mpuRegion a i
    else if regionSize p < 6 || !regionAligned p 7 then .error (.refuse .mpuRegionReserved)
    else if regionHolds p 7 a then .ok (some i)
    else s.mpuRegion a i

/-- CAPR.AP of region `i` (10_state.md rule R54). -/
def State.regionAP (s : State) (i : Nat) : BitVec 2 := s.capr.extractLsb' (8 + 2 * i) 2

/-- CAPR.NX of region `i`. -/
def State.regionNX (s : State) (i : Nat) : Bool := s.capr.getLsbD i

/-- The permission table of rule R96, for the mode PSR.S. -/
def State.regionAllows (s : State) (i : Nat) (k : AccessKind) : Bool :=
  let ap := s.regionAP i
  let readable := if s.psrS then ap != 0 else ap == 2 || ap == 3
  match k with
  | .read => readable
  | .write => if s.psrS then ap != 0 else ap == 3
  | .fetch => readable && !s.regionNX i

/-- The check of the memory protection unit (rules R94 to R96). Without one a reserved value of CCR.MP checks nothing
(DESIGN CHOICE, assumption 59). -/
def State.mpuCheck (s : State) (a : Word) (k : AccessKind) : Except Abort Unit :=
  if s.cfg.mpuRegions = 0 || s.ccrMp = 0 then .ok ()
  else if s.ccrMp ≠ 1 then .error (.refuse .mpuModeReserved)
  else
    match s.mpuRegion a s.cfg.mpuRegions with
    | .error e => .error e
    | .ok none => .error (.raise .accessError)
    | .ok (some i) => if s.regionAllows i k then .ok () else .error (.raise .accessError)

/-! ### The address map -/

/-- The tightly coupled IP range (rules R83, R86). -/
def isTcip (a : Word) : Bool := a.extractLsb' 28 4 == 0xE

/-- The access goes to the instruction bus (rules R84, R85). Rule R85 sends an address of the tightly coupled range that
the instruction bus window covers too to two buses: it goes to the tightly coupled bus, and without `CFG_TCIP` to the
instruction bus and not to the system bus (DESIGN CHOICE, assumption 56). -/
def State.onIbus (s : State) (a : Word) : Bool :=
  s.cfg.ibus && (a.extractLsb' 20 12 &&& s.cfg.ibusMask) == (s.cfg.ibusBase &&& s.cfg.ibusMask)
    && !(s.cfg.tcip && isTcip a)

/-- The first range that holds the address. A transfer is answered by the range of its first byte (DESIGN CHOICE,
assumption 5). -/
def regionAt (a : Nat) : List Region → Option Region
  | [] => none
  | g :: gs => if g.base ≤ a ∧ a < g.base + g.size then some g else regionAt a gs

/-- The range of the platform's map that holds the address, the environment's ranges first. -/
def State.rangeAt (s : State) (a : Word) : Option Region := regionAt a.toNat (s.answers ++ s.cfg.platform)

/-- The attributes of a transfer, `hprot[3:0]` (rule R88): data, supervisor, bufferable, cacheable, from bit 0 up. How the
bufferable bit comes about is open, so it is a free value. The cacheable bit is 1 for an access that goes through the
cache, and for no other (DESIGN CHOICE, assumption 5). -/
def State.hprot (s : State) (k : AccessKind) (cached : Bool) (a : Word) : BitVec 4 :=
  BitVec.ofBool cached ++ BitVec.ofBool (Config.freeBit s.free (2 ^ 33 + a.toNat)) ++ BitVec.ofBool s.psrS
    ++ BitVec.ofBool (k != .fetch)

/-- The range answers a transfer of these attributes with ERROR (rule R88). -/
def refusesAttributes (g : Region) (h : BitVec 4) : Bool := g.refuse.any (fun p => h &&& p.1 == p.2)

/-- What answers a transfer on the instruction or system bus, if anything is at its address (rules R88, R89,
92_eei_decisions.md OPEN-1). -/
def State.slave (s : State) (k : AccessKind) (cached : Bool) (a : Word) : Option RegionKind :=
  match s.rangeAt a with
  | none => none
  | some g => some (if refusesAttributes g (s.hprot k cached a) then .error else g.kind)

/-! ### Cache -/

/-- Address `a` lies in an enabled cacheable region among the first `i` (rule R112). A reserved size is refused, and so
is a base not aligned to the size, for which the rule states the requirement only; the registers are examined from the
highest index down (DESIGN CHOICE, assumption 63). -/
def State.inCacheRegion (s : State) (a : Word) : Nat → Except Abort Bool
  | 0 => .ok false
  | i + 1 =>
    let p := s.crcr[i]?.getD 0
    if regionEnabled p = false then s.inCacheRegion a i
    else if regionSize p < 9 || !regionAligned p 10 then .error (.refuse .cacheRegionReserved)
    else if regionHolds p 10 a then .ok true
    else s.inCacheRegion a i

/-- The cache is configured and on (rules R109, R110). -/
def State.cacheOn (s : State) : Bool := s.cfg.cache != .absent && s.cer.getLsbD 0

/-- The access goes through the cache (rules R106, R110): the cache is on, it holds this kind of access, and the
address is cacheable. -/
def State.isCached (s : State) (a : Word) (k : AccessKind) : Except Abort Bool :=
  if s.cfg.cache = .absent || !s.cer.getLsbD 0 || (s.cer.getLsbD 1 && k ≠ .fetch) || !s.onIbus a then .ok false
  else s.inCacheRegion a s.cfg.cacheRegions

/-- The address lies in one of the spans. -/
def inSpans (xs : List Span) (x : Nat) : Bool := xs.any (fun y => decide (y.lo ≤ x) && decide (x < y.hi))

/-- A line of the cache may hold another byte than memory for the address (assumption 12). -/
def State.byteOld (s : State) (x : Nat) : Bool := inSpans s.old x

/-- A line of the cache may hold other bytes than memory for one of the `n` bytes at `a`. -/
def State.mayHitOld (s : State) (a : Word) (n : Nat) : Bool := (List.range n).any (fun i => s.byteOld (a.toNat + i))

/-- A line of the cache may be hit by an access of `n` bytes at `a`. -/
def State.mayHit (s : State) (a : Word) (n : Nat) : Bool :=
  (List.range n).any (fun i => inSpans s.held (a.toNat + i)) || s.mayHitOld a n

/-- The lanes of an access's value whose bytes may differ (rule R71 gives the order of the lanes). -/
def State.oldLanes (s : State) (a : Word) (w : Width) : Word :=
  (List.range w.bytes).foldl (fun m i =>
    if s.byteOld (a.toNat + i) then
      m ||| (0xFF#32 <<< (8 * (if s.cfg.bigEndian then w.bytes - 1 - i else i)))
    else m) 0

/-- The span without the addresses of the other one. -/
def Span.without (x y : Span) : List Span :=
  if y.hi ≤ x.lo ∨ x.hi ≤ y.lo then [x]
  else (if x.lo < y.lo then [⟨x.lo, y.lo⟩] else []) ++ (if y.hi < x.hi then [⟨y.hi, x.hi⟩] else [])

/-- The addresses that lie in both spans. -/
def Span.meet (x y : Span) : List Span :=
  if max x.lo y.lo < min x.hi y.hi then [⟨max x.lo y.lo, min x.hi y.hi⟩] else []

/-- No line differs from memory in the span any more. -/
def State.renew (s : State) (x : Span) : State := { s with old := s.old.flatMap (fun y => y.without x) }

/-- Memory has changed in the span past the cache: a line that holds any of it is old there from now on (rules R106,
R113). -/
def State.outdate (s : State) (x : Span) : State :=
  if s.cfg.cache ≠ .absent then { s with old := s.held.flatMap (fun y => y.meet x) ++ s.old } else s

/-- The line that holds an address: what one value of INV_ADDR covers, the field being the bits from `CIR_INV_ADDR_LSB` up
(DESIGN CHOICE, assumption 11). -/
def State.lineOf (s : State) (a : Word) : Span :=
  let size := 2 ^ s.cfg.cirInvAddrLsb
  ⟨a.toNat / size * size, a.toNat / size * size + size⟩

/-- The line of the address may be in the cache from now on (rule R106). -/
def State.fill (s : State) (a : Word) : State :=
  if s.held.any (fun y => decide (y.lo ≤ (s.lineOf a).lo) && decide ((s.lineOf a).hi ≤ y.hi)) then s
  else { s with held := s.lineOf a :: s.held }

/-! ### Tightly coupled registers -/

/-- The registers reached through the tightly coupled bus. -/
inductive TcipReg
  | cer | cir
  | crcr (i : Nat)
  | secr
  | seuReserved
  deriving DecidableEq, Repr

/-- The register that an access at `a` reaches, or none where the access goes to the platform: where the spec has no
register (rule R109, 60_exceptions.md rule R458), at a word of the security extension unit other than SECR for which the
platform has a device (rule R464, assumption 15), and in the range of a unit that is not configured (DESIGN CHOICE,
assumption 60). -/
def State.tcipReg (s : State) (a : Word) (w : Width) : Except Abort (Option TcipReg) :=
  if s.cfg.cache ≠ .absent ∧ 0xE000F000 ≤ a.toNat ∧ a.toNat < 0xE0010000 then
    let off := a.toNat - 0xE000F000
    if w ≠ .word then .error (.refuse .reservedTcipAccess)
    else if off = 0 then .ok (some .cer)
    else if off = 4 then .ok (some .cir)
    else if 8 ≤ off ∧ off < 8 + 4 * s.cfg.cacheRegions ∧ off < 24 then .ok (some (.crcr (off / 4 - 2)))
    else .error (.refuse .reservedTcipAccess)
  else if s.cfg.security ∧ 0xE000EFA0 ≤ a.toNat ∧ a.toNat < 0xE000EFB0 then
    if a.toNat / 4 ≠ s.cfg.secrAddr.toNat / 4 ∧ (s.rangeAt a).isSome then .ok none
    else if w ≠ .word then .error (.refuse .reservedTcipAccess)
    else if a = s.cfg.secrAddr then .ok (some .secr)
    else .ok (some .seuReserved)
  else .ok none

/-- What reading the register gives. CIR's readback after a write is open (rule R111), so it is a free value. -/
def State.readTcip (s : State) : TcipReg → Word
  | .cer => s.cer
  | .cir => if s.cirWritten then Config.freeWord s.free 0xE000F004 else 0
  | .crcr i => s.crcr[i]?.getD 0
  | .secr => s.secr
  | .seuReserved => 0

/-- The stored-to locations in the span after an invalidation (rule R107). -/
def State.invalidateStale (s : State) (y : Span) : List Stale :=
  s.stale.map (fun x =>
    if x.stage = .stored ∧ y.lo ≤ x.addr ∧ x.addr < y.hi then { x with stage := .invalidated } else x)

/-- INV_ALL: no line holds anything (rule R111). The invalidation is complete when the store is (assumption 13). -/
def State.invalidateAll (s : State) : State :=
  { s with held := [], old := [], stale := s.invalidateStale ⟨0, 2 ^ 32⟩ }

/-- INV_ONE: the line holds nothing (rule R111). -/
def State.invalidateLine (s : State) (x : Span) : State :=
  { s.renew x with held := s.held.flatMap (fun y => y.without x), stale := s.invalidateStale x }

/-- Writing CIR (rule R111). -/
def State.writeCir (s : State) (v : Word) : State :=
  { (if v.getLsbD 0 then s.invalidateAll
     else if v.getLsbD s.cfg.cirInvOneBit then s.invalidateLine (s.lineOf v)
     else s) with cirWritten := true }

/-- Writing the register (rules R110 to R112, 60_exceptions.md rule R464). -/
def State.writeTcip (s : State) (g : TcipReg) (v : Word) : State :=
  match g with
  | .cer => { s with cer := v &&& 3 }
  | .cir => s.writeCir v
  | .crcr i => { s with crcr := s.crcr.setIfInBounds i (v &&& crcrMask) }
  | .secr => { s with secr := v &&& secrMask s.cfg }
  | .seuReserved => s

/-! ### The bus -/

/-- Steps 2 to 4 of rule R78 for one aligned transfer. -/
def State.checkAccess (s : State) (a : Word) (w : Width) (k : AccessKind) (spBased : Bool) : Except Abort Unit :=
  if spBased && s.guardFails a w.bytes then .error (.raise .accessError)
  else if isTcip a && !s.psrS then .error (.raise .accessError)
  else s.mpuCheck a k

/-- An open value of the access's size at `a`. -/
def State.freeRead (s : State) (a : Word) (w : Width) : Word := Config.freeWord s.free a.toNat &&& lowMask (8 * w.bytes)

/-- The answer to a read (rule R89). -/
def State.answerRead (s : State) (a : Word) (w : Width) : RegionKind → Except Abort Word
  | .ram | .rom => .ok (s.mem.load s.cfg.bigEndian a w)
  | .device => .ok (s.freeRead a w)
  | .value v => .ok (v &&& lowMask (8 * w.bytes))
  | .error => .error (.raise .accessError)
  | .silent => .error .stuck

/-- What a line that differs nowhere from what the platform has at the address holds there, whatever access filled it. -/
def State.filled (s : State) (a : Word) (w : Width) : Option Word :=
  match s.rangeAt a with
  | none => none
  | some g => (s.answerRead a w g.kind).toOption

/-- What a hit gives, where a line may be hit: a byte that may differ from memory is open, and any other is what a line
holds there (rule R106, assumption 12). -/
def State.hit (s : State) (a : Word) (w : Width) : Option Word :=
  if s.mayHit a w.bytes then
    match s.filled a w with
    | some v => some ((v &&& ~~~(s.oldLanes a w)) ||| (s.freeRead a w &&& s.oldLanes a w))
    | none => some (s.freeRead a w)
  else none

/-- What the cache answers, if it does: whether a line that may be hit is hit is open (rule R106, assumption 12). -/
def State.cacheAnswer (s : State) (a : Word) (w : Width) (cached : Bool) : Option Word :=
  if cached && Config.freeBit s.free a.toNat then s.hit a w else none

/-- What the platform answers to a read. -/
def State.platformRead (s : State) (a : Word) (w : Width) (k : AccessKind) (cached : Bool) : Except Abort Word :=
  s.answerRead a w ((s.slave k cached a).getD .error)

/-- A read through the cache or past it: a hit makes no transfer (rule R106). -/
def State.cacheRead (s : State) (a : Word) (w : Width) (k : AccessKind) (cached : Bool) : Except Abort Word :=
  match s.cacheAnswer a w cached with
  | some v => .ok v
  | none => s.platformRead a w k cached

/-- A read transfer, aligned, after the checks of the core (rules R78 step 5, R85, R89, R106, 60_exceptions.md rule
R458). -/
def State.busRead (s : State) (a : Word) (w : Width) (k : AccessKind) : Except Abort Word :=
  if s.cfg.tcip && isTcip a then
    match s.tcipReg a w with
    | .error e => .error e
    | .ok (some g) => .ok (s.readTcip g)
    | .ok none =>
      match s.slave k false a with
      | none => .error (.refuse .tcipDevice)
      | some x => s.answerRead a w x
  else
    match s.isCached a k with
    | .error e => .error e
    | .ok cached => s.cacheRead a w k cached

/-- What an aligned read leaves in the cache: a cached read that the platform answered has filled its line (rule R106). -/
def State.afterTransfer (s : State) (a : Word) (w : Width) (k : AccessKind) (spBased : Bool) : State :=
  if s.cacheOn then
    match s.checkAccess a w k spBased, s.isCached a k with
    | .ok (), .ok true =>
      match s.cacheAnswer a w true, s.platformRead a w k true with
      | none, .ok _ => s.fill a
      | _, _ => s
    | _, _ => s
  else s

/-- The addresses of the `n` bytes from `a` on. -/
def byteAddrs (a : Word) : Nat → List Nat
  | 0 => []
  | n + 1 => a.toNat :: byteAddrs (a + 1) n

/-- Record that the `n` bytes at `a` were stored to (rule R107). -/
def State.markStale (s : State) (a : Word) (n : Nat) : State :=
  let addrs := byteAddrs a n
  { s with stale := addrs.map (fun x => ⟨x, .stored⟩) ++ s.stale.filter (fun x => !addrs.contains x.addr) }

/-- What a store of `n` bytes at `a` does to the lines. Through the cache it may fill its line. Where a line gets the new
bytes, it holds what memory does; else it is old (rules R106, R107). -/
def State.markLines (s : State) (a : Word) (n : Nat) (cached updates : Bool) : State :=
  let x : Span := ⟨a.toNat, a.toNat + n⟩
  let t := if cached then s.fill a else s
  if updates then t.renew x
  else if t.onIbus a then t.outdate x
  else t

/-- The answer to a write (rule R89). Memory's lines get the bytes of a store through the cache, and every store's where
the platform keeps the fetch coherent. A device that is stored to may answer otherwise than a line, and is marked like
memory (rule R107). -/
def State.answerWrite (s : State) (a : Word) (w : Width) (v : Word) (cached : Bool) : RegionKind → Except Abort State
  | .ram => .ok (({ s with mem := s.mem.store s.cfg.bigEndian a v w }.markStale a w.bytes).markLines a w.bytes cached
      (cached || s.cfg.smcCoherent))
  | .device | .value _ => .ok ((s.markStale a w.bytes).markLines a w.bytes cached s.cfg.smcCoherent)
  | .rom | .error => .error (.raise .accessError)
  | .silent => .error .stuck

/-- A write transfer, aligned, after the checks of the core. -/
def State.busWrite (s : State) (a : Word) (w : Width) (v : Word) : Except Abort State :=
  if s.cfg.tcip && isTcip a then
    match s.tcipReg a w with
    | .error e => .error e
    | .ok (some g) => .ok (s.writeTcip g v)
    | .ok none =>
      match s.slave .write false a with
      | none => .error (.refuse .tcipDevice)
      | some x => s.answerWrite a w v false x
  else
    match s.isCached a .write with
    | .error e => .error e
    | .ok cached => s.answerWrite a w v cached ((s.slave .write cached a).getD .error)

/-- Memory written behind the core: a line that holds the byte is old from now on (70_reset_and_hazards.md rule R499). -/
def State.externalWrite (s : State) (a : Word) (b : Byte) : State :=
  let t := { s with mem := s.mem.setByte a b }
  if s.onIbus a then t.outdate ⟨a.toNat, a.toNat + 1⟩ else t

/-- Several such writes, in order. -/
def State.externalWrites (s : State) : List (Word × Byte) → State
  | [] => s
  | p :: ps => (s.externalWrite p.1 p.2).externalWrites ps

/-- The platform answers in the ranges as they say from now on. What a line holds of them, or held of the ranges set
before, may be old then. -/
def State.setAnswers (s : State) (gs : List Region) : State :=
  (s.answers ++ gs).foldl (fun t g => t.outdate ⟨g.base, g.base + g.size⟩) { s with answers := gs }

/-- The system's part of a reset of the core (70_reset_and_hazards.md rules R471, R472): what answers from now on, and what
it writes. It is done once. -/
def State.systemReset (s : State) : State :=
  { (s.setAnswers (s.onReset.answers.getD s.answers)).externalWrites s.onReset.writes with onReset := SystemReset.keep }

/-! ### Data accesses -/

/-- Steps 2 to 5 of rule R78 for an aligned read. -/
def State.readAligned (s : State) (a : Word) (w : Width) (spBased : Bool) : Except Abort Word :=
  match s.checkAccess a w .read spBased with
  | .error e => .error e
  | .ok () => s.busRead a w .read

/-- Steps 2 to 5 of rule R78 for an aligned write. -/
def State.writeAligned (s : State) (a : Word) (w : Width) (spBased : Bool) (v : Word) : Except Abort State :=
  match s.checkAccess a w .write spBased with
  | .error e => .error e
  | .ok () => s.busWrite a w v

/-- The `n` bytes from byte `off` on of the two words read at an aligned address and after it (rule R76). -/
def spliceWords (bigEndian : Bool) (w0 w1 : Word) (off n : Nat) : Word :=
  let both : BitVec 64 := if bigEndian then w0 ++ w1 else w1 ++ w0
  let drop := if bigEndian then 64 - 8 * off - 8 * n else 8 * off
  (both >>> drop).setWidth 32 &&& lowMask (8 * n)

/-- A misaligned read as hardware splits it (rule R76): the word that holds its first byte, and the next word where
the access reaches into it. -/
def State.readSplit (s : State) (a : Word) (w : Width) (spBased : Bool) : Except Abort Word :=
  let off := a.toNat % 4
  let a0 := a - BitVec.ofNat 32 off
  match s.readAligned a0 .word spBased with
  | .error e => .error e
  | .ok w0 =>
    if off + w.bytes ≤ 4 then .ok (spliceWords s.cfg.bigEndian w0 0 off w.bytes)
    else
      match (s.afterTransfer a0 .word .read spBased).readAligned (a0 + 4) .word spBased with
      | .error e => .error e
      | .ok w1 => .ok (spliceWords s.cfg.bigEndian w0 w1 off w.bytes)

/-- The transfers a misaligned write is split into, as offsets from its address (rule R76). -/
def writeParts (off : Nat) : Width → List (Nat × Width)
  | .byte => [(0, .byte)]
  | .half => [(0, .byte), (1, .byte)]
  | .word => if off = 2 then [(0, .half), (2, .half)] else [(0, .byte), (1, .half), (3, .byte)]

/-- The part of `v`, a value of `n` bytes, that lies `off` bytes after its address (rule R71). -/
def partValue (bigEndian : Bool) (v : Word) (n off : Nat) (w : Width) : Word :=
  if bigEndian then v >>> (8 * (n - off - w.bytes)) else v >>> (8 * off)

/-- Perform the parts of a split write in order. A part that fails ends it; the parts before it stay performed
(93_implementation_defined.md U10). -/
def State.writeSplit (s : State) (a : Word) (n : Nat) (spBased : Bool) (v : Word) :
    List (Nat × Width) → State × Option Abort
  | [] => (s, none)
  | (off, w) :: ps =>
    match s.writeAligned (a + BitVec.ofNat 32 off) w spBased (partValue s.cfg.bigEndian v n off w) with
    | .error e => (s, some e)
    | .ok t => t.writeSplit a n spBased v ps

/-- `MemRead(addr, n)` by an instruction, `multi` a multi-access one (rules R75 to R79). -/
def State.readData (s : State) (a : Word) (w : Width) (multi spBased : Bool) : Except Abort Word :=
  if w.aligned a then s.readAligned a w spBased
  else if multi || !s.psrMM then .error (.raise .misaligned)
  else if s.cfg.unalignedHw then s.readSplit a w spBased
  else s.readAligned (w.alignDown a) w spBased

/-- What a data read leaves in the cache, performed whole or in part. -/
def State.afterRead (s : State) (a : Word) (w : Width) (multi spBased : Bool) : State :=
  if !s.cacheOn then s
  else if w.aligned a then s.afterTransfer a w .read spBased
  else if multi || !s.psrMM then s
  else if s.cfg.unalignedHw then
    let off := a.toNat % 4
    let a0 := a - BitVec.ofNat 32 off
    let t := s.afterTransfer a0 .word .read spBased
    match s.readAligned a0 .word spBased with
    | .error _ => t
    | .ok _ => if off + w.bytes ≤ 4 then t else t.afterTransfer (a0 + 4) .word .read spBased
  else s.afterTransfer (w.alignDown a) w .read spBased

/-- One aligned write as a split write of one part. -/
def State.writeOnce (s : State) (a : Word) (w : Width) (spBased : Bool) (v : Word) : State × Option Abort :=
  match s.writeAligned a w spBased v with
  | .error e => (s, some e)
  | .ok t => (t, none)

/-- `MemWrite(addr, n, v)` by an instruction (rules R75 to R79): the state after it, and why it stopped if it did. -/
def State.writeData (s : State) (a : Word) (w : Width) (multi spBased : Bool) (v : Word) : State × Option Abort :=
  if w.aligned a then s.writeOnce a w spBased v
  else if multi || !s.psrMM then (s, some (.raise .misaligned))
  else if s.cfg.unalignedHw then s.writeSplit a w.bytes spBased v (writeParts (a.toNat % 4) w)
  else s.writeOnce (w.alignDown a) w spBased v

/-! ### Instruction accesses -/

/-- A read as an instruction access, in the mode PSR.S (rules R73, R87, R96). -/
def State.fetchRead (s : State) (a : Word) (w : Width) : Except Abort Word :=
  match s.checkAccess a w .fetch false with
  | .error e => .error e
  | .ok () => s.busRead a w .fetch

/-- `Fetch16(a)` (rule R73). A parcel stored to and not made visible has no meaning unless the platform asserts
coherence (rule R107). -/
def State.fetchParcel (s : State) (a : Word) : Except Abort Parcel :=
  if s.cfg.bigEndian && !s.cfg.beV2 then .error (.refuse .fetchByteOrder)
  else
    match s.fetchRead a .half with
    | .error e => .error e
    | .ok v =>
      if !s.cfg.smcCoherent && s.stale.any (fun x => x.addr == a.toNat || x.addr == (a + 1).toNat) then
        .error (.refuse .staleFetch)
      else .ok (v.setWidth 16)

end Sys2Proof.Machine
end

