-- ==== Sys2Proof/Machine/Flags.lean ====
section
/-! DEFINITION. Results with a condition bit, and the other computations of the data-processing instructions: exact
integers first, narrowed at the end. -/

namespace Sys2Proof.Machine

/-- The carry-in as a number. -/
def carry (c : Bool) : Nat := if c then 1 else 0

/-- ADDC: the sum with carry, and whether it reached 2 ^ 32 (40_addsub.md rule R154). -/
def addCarry (a b : Word) (c : Bool) : Word × Bool :=
  let sum := a.toNat + b.toNat + carry c
  (BitVec.ofNat 32 sum, decide (2 ^ 32 ≤ sum))

/-- SUBC: the difference less the borrow, and C = 0 exactly when it is negative (rule R164). -/
def subCarry (a b : Word) (c : Bool) : Word × Bool :=
  let d : Int := (a.toNat : Int) - b.toNat - (1 - carry c)
  (BitVec.ofInt 32 d, decide (0 ≤ d))

/-- The shift count of a register-count shift: bits 5:0 (42_shift.md rule R210). -/
def shiftCount (a : Word) : Nat := (a.extractLsb' 0 6).toNat

/-- LSL: 0 for counts above 31 (rule R211). -/
def shiftLeft (a : Word) (n : Nat) : Word := if 31 < n then 0 else a <<< n

/-- LSR: 0 for counts above 31 (rule R216). -/
def shiftRight (a : Word) (n : Nat) : Word := if 31 < n then 0 else a >>> n

/-- ASR: counts above 31 act as 31 (rule R221). -/
def shiftRightArith (a : Word) (n : Nat) : Word := a.sshiftRight (min n 31)

/-- Rotate left by 0 to 31 (rule R228). -/
def rotateLeft (a : Word) (n : Nat) : Word := (a <<< n) ||| (a >>> (32 - n))

/-- ROTL: 0 for counts above 31 (rule R226). -/
def rotateLeftReg (a : Word) (n : Nat) : Word := if 31 < n then 0 else rotateLeft a n

/-- LSLC by `n`, 1 to 32, and the last bit shifted out (rule R215). -/
def shiftLeftC (a : Word) (n : Nat) : Word × Bool := (shiftLeft a n, a.getLsbD (32 - n))

/-- LSRC by `n`, 1 to 32, and the last bit shifted out (rule R220). -/
def shiftRightC (a : Word) (n : Nat) : Word × Bool := (shiftRight a n, a.getLsbD (n - 1))

/-- ASRC by `n`, 1 to 32, and the last bit shifted out (rule R225). -/
def shiftRightArithC (a : Word) (n : Nat) : Word × Bool := (shiftRightArith a n, a.getLsbD (n - 1))

/-- XSR: the 33-bit value {RX, C} rotated right by `n`, 1 to 32 (rule R229). -/
def rotateRightC (a : Word) (n : Nat) (c : Bool) : Word × Bool :=
  let v : BitVec 33 := a ++ BitVec.ofBool c
  let x := (v >>> n) ||| (v <<< (33 - n))
  (x.extractLsb' 1 32, x.getLsbD 0)

/-- The unsigned comparison a ≥ b (43_compare.md rule R241). -/
def geU (a b : Word) : Bool := decide (b.toNat ≤ a.toNat)

/-- The signed comparison a < b (rule R244). -/
def ltS (a b : Word) : Bool := decide (a.toInt < b.toInt)

/-- Byte `i` of a word, byte 0 the least significant. -/
def byteOf (a : Word) (i : Nat) : Byte := a.extractLsb' (8 * i) 8

/-- TSTNBZ: no byte is zero (rule R251). -/
def noByteZero (a : Word) : Bool := byteOf a 3 != 0 && byteOf a 2 != 0 && byteOf a 1 != 0 && byteOf a 0 != 0

/-- How many consecutive bits equal to `b`, from bit `n - 1` of `a` downward. -/
def runLength (a : Word) (b : Bool) : Nat → Nat
  | 0 => 0
  | n + 1 => if a.getLsbD n = b then runLength a b n + 1 else 0

/-- FF0: the number of leading 1 bits (45_bitops.md rule R289). -/
def findFirst0 (a : Word) : Word := BitVec.ofNat 32 (runLength a true 32)

/-- FF1: the number of leading 0 bits (rule R290). -/
def findFirst1 (a : Word) : Word := BitVec.ofNat 32 (runLength a false 32)

/-- XTRB: a byte, zero extended, and whether it is not zero (rule R291). -/
def extractByte (a : Word) (i : Nat) : Word × Bool := ((byteOf a i).setWidth 32, byteOf a i != 0)

/-- REVB: the bytes in reverse order (rule R301). -/
def reverseBytes (a : Word) : Word := byteOf a 0 ++ byteOf a 1 ++ byteOf a 2 ++ byteOf a 3

/-- REVH: the bytes of each halfword exchanged (rule R302). -/
def reverseHalfBytes (a : Word) : Word := byteOf a 2 ++ byteOf a 3 ++ byteOf a 0 ++ byteOf a 1

/-- Zero extension of the low byte. -/
def zextByte (a : Word) : Word := (a.extractLsb' 0 8).setWidth 32

/-- Zero extension of the low halfword. -/
def zextHalf (a : Word) : Word := (a.extractLsb' 0 16).setWidth 32

/-- Sign extension of the low byte. -/
def sextByte (a : Word) : Word := (a.extractLsb' 0 8).signExtend 32

/-- Sign extension of the low halfword. -/
def sextHalf (a : Word) : Word := (a.extractLsb' 0 16).signExtend 32

/-- The word with one bit set. -/
def oneBit (n : Nat) : Word := 1#32 <<< n

/-- BMASKI: bits `n` down to 0 set (rule R288). -/
def maskTo (n : Nat) : Word := BitVec.ofNat 32 (2 ^ (n + 1) - 1)

/-- C as a word (44_transfer.md rule R268). -/
def boolWord (c : Bool) : Word := (BitVec.ofBool c).setWidth 32

end Sys2Proof.Machine
end

