-- ==== Sys2Proof/Machine/Operands.lean ====
section
/-! DEFINITION. The operand forms: immediates (30_encoding.md rule R135), addresses, branch targets and register
lists. -/

namespace Sys2Proof.Machine

/-- An `IMM` operand: the field, zero extended (rule R135 b). -/
def imm (n : Nat) : Word := BitVec.ofNat 32 n

/-- An `OIMM` operand: the field plus one (rule R135 a). -/
def oimm (n : Nat) : Word := BitVec.ofNat 32 (n + 1)

/-- A scaled unsigned operand: the field times 2 ^ `k` (rule R135 c). -/
def scaled (n k : Nat) : Word := BitVec.ofNat 32 (n * 2 ^ k)

/-- A signed offset field of `w` bits that counts halfwords (rule R135 d). -/
def relOffset (w n : Nat) : Word := (BitVec.ofNat (w + 1) (2 * n)).signExtend 32

/-- The target of a relative branch, or the address that GRS makes: the instruction's own address plus the offset
(46_branch.md rule R310 a, 44_transfer.md rule R272). -/
def State.relTarget (s : State) (w n : Nat) : Word := s.pc + relOffset w n

/-- The address of a load or store: base register plus the offset scaled by the access size (47_loadstore.md rule
R330 a). -/
def State.baseOffset (s : State) (rx off k : Nat) : Word := s.reg rx + scaled off k

/-- The word offset of lrw16 (44_transfer.md rule R270). -/
def lrw16Offset (imm1 imm7 : Nat) : Nat := if imm1 = 1 then imm7 else 128 + (127 - imm7)

/-- The address of a literal, word aligned (rules R270, R271). -/
def State.literalAddr (s : State) (off : Nat) : Word := (s.pc + scaled off 2) &&& 0xFFFFFFFC

/-- The registers r4 to r(3 + LIST1), and r15 if its bit is 1, in ascending order (48_multi.md rule R366). -/
def listRegs (r15 list1 : Nat) : List Nat := List.range' 4 list1 ++ (if r15 = 1 then [15] else [])

/-- The registers RY to RY + IMM5 (rule R361). -/
def rangeRegs (ry imm5 : Nat) : List Nat := List.range' ry (imm5 + 1)

/-- The registers of IPUSH and IPOP in ascending order (rules R368, R369). -/
def ipushRegs : List Nat := [0, 1, 2, 3, 12, 13]

/-- The multiplier of jmpix16 (46_branch.md rule R318). -/
def jmpixScale (imm2 : Nat) : Word := BitVec.ofNat 32 (16 + 8 * imm2)

end Sys2Proof.Machine
end

