-- ==== Sys2Proof/Machine/Ops.lean ====
section
/-! DEFINITION. The operations every instruction is written over: taking an exception and returning from one
(60_exceptions.md rules R425 to R434), reset (70_reset_and_hazards.md rule R470), the privilege and configuration
checks, single loads and stores, and the transfers of a multi-access instruction (48_multi.md rule R360). -/

namespace Sys2Proof.Machine

/-- The outcome of a step of this machine. -/
abbrev Result := Host.Outcome State Fault Refusal

/-! ### Exceptions -/

/-- The vector of an exception taken with PSR.EE = 1 (60_exceptions.md rule R410). -/
def Cause.vector : Cause → BitVec 8
  | .misaligned => 1
  | .accessError => 2
  | .illegal => 4
  | .privilege => 5
  | .breakpoint => 7
  | .addressWatch => 7
  | .softReset => 8
  | .trap n => BitVec.ofNat 8 (16 + n)
  | .interrupt v => v

/-- Interrupts and the address watch keep their vector whatever PSR.EE is; the core takes neither with EE = 0 (rules
R425, R437, R441). -/
def Cause.keepsVector : Cause → Bool
  | .addressWatch => true
  | .interrupt _ => true
  | _ => false

/-- The vector an exception is taken through: 8, the unrecoverable error, with PSR.EE = 0 (rule R434). -/
def State.vectorFor (s : State) (c : Cause) : BitVec 8 :=
  if !s.psrEE && !c.keepsVector then 8 else c.vector

/-- The saves of exception entry (rule R425): EPSR from PSR, EPC the return address, PSR the handler's. -/
def State.enter (s : State) (vec : BitVec 8) (ret : Word) : State :=
  { s with epsr := s.psr, epc := ret, psr := psrEnter s.psr vec }

/-- The address of the vector's word; without `CFG_VBR` the base is 0 (rule R426). -/
def State.vectorAddr (s : State) (vec : BitVec 8) : Word :=
  (if s.cfg.vbr then s.vbr else 0) + (vec.setWidth 32 <<< 2)

/-- The vector's word, read as an instruction access (rule R426). -/
def State.vectorWord (s : State) (vec : BitVec 8) : Except Abort Word := s.fetchRead (s.vectorAddr vec) .word

/-- What the read of the vector's word leaves in the cache. -/
def State.afterVector (s : State) (vec : BitVec 8) : State := s.afterTransfer (s.vectorAddr vec) .word .fetch false

/-- Enter vector 8 after the read of another vector's word failed: EPSR is the PSR just written, and a second failure
leaves the machine stuck (92_eei_decisions.md D30). -/
def State.vectorFailed (s : State) (ret : Word) : Result :=
  let t := s.enter 8 ret
  match t.vectorWord 8 with
  | .ok w => .next ((t.afterVector 8).jump w)
  | .error (.refuse r) => .refused r
  | .error .stuck => .fault .stuckBus
  | .error (.raise _) => .fault .stuckVectorRead

/-- Take an exception through vector `vec` with return address `ret` (rules R425, R426). -/
def State.takeVector (s : State) (vec : BitVec 8) (ret : Word) : Result :=
  let t := s.enter vec ret
  match t.vectorWord vec with
  | .ok w => .next ((t.afterVector vec).jump w)
  | .error (.refuse r) => .refused r
  | .error .stuck => .fault .stuckBus
  | .error (.raise _) => t.vectorFailed ret

/-- Take the exception `c` with return address `ret` (rules R425, R434). -/
def State.takeException (s : State) (c : Cause) (ret : Word) : Result := s.takeVector (s.vectorFor c) ret

/-- An exception of the current instruction: EPC is its address (rule R427). -/
def State.raise (s : State) (c : Cause) : Result := s.takeException c s.pc

/-- An access of the current instruction was not performed. -/
def State.abort (s : State) : Abort → Result
  | .raise c => s.raise c
  | .refuse r => .refused r
  | .stuck => .fault .stuckBus

/-- Return from an exception: PSR from EPSR, the PC from EPC (rule R430). -/
def State.returnFromException (s : State) : State := { s with psr := s.epsr &&& psrMask s.cfg }.jump s.epc

/-! ### Reset -/

/-- A register whose value after a reset the spec leaves open: a fresh free value each time (70_reset_and_hazards.md
rule R471, assumption 3). -/
def State.draw (s : State) (k : Nat) : Word := Config.freeWord s.free (2 ^ 32 + k)

/-- The registers after a reset, before the reset vector is read (10_state.md rule R63). -/
def State.resetRegisters (s : State) : State :=
  { s with
    r := Vector.ofFn (fun i : Fin 14 => s.draw i.val)
    lr := s.draw 15
    userSp := s.draw 16
    spvSp := s.draw 17
    intSp := s.draw 18
    fpB := s.draw 23
    top := s.draw 24
    bsp := s.draw 25
    svbr := s.draw 30
    psr := 0x80000000
    vbr := 0
    epsr := s.draw 32 &&& psrMask s.cfg
    epc := s.draw 33
    gcr := s.draw 34 &&& lowMask s.cfg.gcrWidth
    chrIse := false
    chrIae := false
    ccrMp := 0
    capr := 0
    pacr := Vector.ofFn (fun i : Fin 8 => s.draw (40 + i.val) &&& (pacrMask &&& ~~~1#32))
    prsr := (s.draw 35).setWidth 3
    sgcrSge := false
    sgcrSgp := false
    sgtr := s.draw 36
    sgbr := s.draw 37
    sgistr := s.draw 38
    sgisbr := s.draw 39
    cer := 0
    cirWritten := false
    crcr := Vector.replicate 4 0
    secr := s.draw 48 &&& secrMask s.cfg
    dpPending := false
    run := .normal
    held := [⟨0, 2 ^ 32⟩]
    old := [⟨0, 2 ^ 32⟩] }

/-- The reset sequence (70_reset_and_hazards.md rule R470): the system's own devices, the registers, then the word at
address 0, so that the system as it is after its reset answers that read (DESIGN CHOICE, assumption 65). The debugger's
bits stay, and memory as far as the system leaves it (rule R471). -/
def State.takeReset (s : State) : Result :=
  let t := s.systemReset.resetRegisters
  match t.fetchRead 0 .word with
  | .ok w => .next (t.jump w)
  | .error (.refuse r) => .refused r
  | .error .stuck => .fault .stuckBus
  | .error (.raise _) => .fault .stuckResetVector

/-- A software reset: the platform is told, and the core is reset at once (rule R472, assumption 48). -/
def State.softReset (s : State) : Result := { s with resetRequest := true }.takeReset

/-! ### Checks -/

/-- Go on if every register in `regs` exists (10_state.md rule R24). -/
def State.withRegs (s : State) (regs : List Nat) (k : Result) : Result :=
  if regs.all s.hasReg then k else .refused .unimplementedRegister

/-- Go on in supervisor mode; in user mode take the privilege violation (60_exceptions.md rule R420). -/
def State.privileged (s : State) (k : Result) : Result :=
  if s.psrS then k else s.raise .privilege

/-- Go on if the option is configured; without it the word is an illegal instruction (30_encoding.md rule R143 d). -/
def State.requires (s : State) (option : Bool) (k : Result) : Result :=
  if option then k else s.raise .illegal

/-! ### Register results -/

/-- Write `v` to register `rz` and go on. -/
def State.result (s : State) (len rz : Nat) (v : Word) : Result := .next ((s.setReg rz v).advance len)

/-- Write `v` to register `rz` and `c` to PSR.C, and go on. -/
def State.resultC (s : State) (len rz : Nat) (v : Word) (c : Bool) : Result :=
  .next (((s.setReg rz v).setC c).advance len)

/-- Write `c` to PSR.C and go on. -/
def State.condition (s : State) (len : Nat) (c : Bool) : Result := .next ((s.setC c).advance len)

/-- `x[rz] <- f(x[rx], x[ry])`. -/
def State.binary (s : State) (len rz rx ry : Nat) (f : Word → Word → Word) : Result :=
  s.withRegs [rz, rx, ry] (s.result len rz (f (s.reg rx) (s.reg ry)))

/-- `x[rz] <- f(x[rx])`. -/
def State.unary (s : State) (len rz rx : Nat) (f : Word → Word) : Result :=
  s.withRegs [rz, rx] (s.result len rz (f (s.reg rx)))

/-- `x[rz], C <- f(x[rx], x[ry], C)`. -/
def State.binaryC (s : State) (len rz rx ry : Nat) (f : Word → Word → Bool → Word × Bool) : Result :=
  s.withRegs [rz, rx, ry]
    (s.resultC len rz (f (s.reg rx) (s.reg ry) s.psrC).1 (f (s.reg rx) (s.reg ry) s.psrC).2)

/-- `x[rz], C <- f(x[rx], C)`. -/
def State.unaryC (s : State) (len rz rx : Nat) (f : Word → Bool → Word × Bool) : Result :=
  s.withRegs [rz, rx] (s.resultC len rz (f (s.reg rx) s.psrC).1 (f (s.reg rx) s.psrC).2)

/-- `C <- p(x[rx], x[ry])`. -/
def State.compare (s : State) (len rx ry : Nat) (p : Word → Word → Bool) : Result :=
  s.withRegs [rx, ry] (s.condition len (p (s.reg rx) (s.reg ry)))

/-- `C <- p(x[rx])`. -/
def State.test (s : State) (len rx : Nat) (p : Word → Bool) : Result :=
  s.withRegs [rx] (s.condition len (p (s.reg rx)))

/-- If `C` is `when` then `x[rz] <- f(x[rx])`, else nothing. -/
def State.conditional (s : State) (len rz rx : Nat) (when : Bool) (f : Word → Word) : Result :=
  s.withRegs [rz, rx] (if s.psrC = when then s.result len rz (f (s.reg rx)) else .next (s.advance len))

/-! ### Single accesses -/

/-- Load `w` at `addr` into `rz`, extended by `ext`; nothing is written where the access stops (47_loadstore.md rule
R330 e). -/
def State.load (s : State) (len rz : Nat) (addr : Word) (w : Width) (spBased : Bool) (ext : Word → Word) : Result :=
  let t := s.afterRead addr w false spBased
  match s.readData addr w false spBased with
  | .ok v => t.result len rz (ext v)
  | .error e => t.abort e

/-- Store the low bytes of `v` at `addr`. -/
def State.store (s : State) (len : Nat) (addr : Word) (w : Width) (spBased : Bool) (v : Word) : Result :=
  match s.writeData addr w false spBased v with
  | (t, none) => .next (t.advance len)
  | (t, some e) => t.abort e

/-! ### Multi-access instructions -/

/-- One word transfer of a multi-access instruction (48_multi.md rule R360). -/
inductive Xfer
  | load (reg : Nat) (addr : Word)
  | store (value : Word) (addr : Word)
  deriving DecidableEq, Repr

/-- The address of a transfer. -/
def Xfer.addr : Xfer → Word
  | .load _ a => a
  | .store _ a => a

/-- What a run of transfers leaves: memory, the words loaded so far with their registers, and why it stopped. -/
structure XferRun where
  state : State
  loaded : List (Nat × Word)
  stop : Option Abort

/-- What another bus master writes after a transfer lands in memory (20_memory.md rule R81). -/
def State.landWrites (s : State) : State :=
  match s.between with
  | [] => s
  | ws :: rest => { s with between := rest }.externalWrites ws

/-- Perform transfers in order until one is not performed. No register is written here. -/
def State.transfer (s : State) (spBased : Bool) (loaded : List (Nat × Word)) : List Xfer → XferRun
  | [] => ⟨s, loaded, none⟩
  | .load n a :: xs =>
    match s.readData a .word true spBased with
    | .error e => ⟨s, loaded, some e⟩
    | .ok v => (s.afterRead a .word true spBased).landWrites.transfer spBased (loaded ++ [(n, v)]) xs
  | .store v a :: xs =>
    match s.writeData a .word true spBased v with
    | (t, some e) => ⟨t, loaded, some e⟩
    | (t, none) => t.landWrites.transfer spBased loaded xs

/-- The loads of an instruction that stopped part way: each register holds its old or its loaded value, which one is
open (93_implementation_defined.md U16). -/
def State.drawLoaded (s : State) : List (Nat × Word) → State
  | [] => s
  | p :: ps =>
    (s.setReg p.1 (if Config.freeBit s.free (2 ^ 34 + p.1) then p.2 else s.reg p.1)).drawLoaded ps

/-- The partial state of a multi-access instruction (48_multi.md rule R360 c). -/
def XferRun.partialState (x : XferRun) : State := x.state.drawLoaded x.loaded

/-- Perform all transfers, write the loaded registers and go on with `k`; a transfer that is not performed leaves the
partial state and its exception, with EPC the instruction (rule R360 c). -/
def State.multi (s : State) (spBased : Bool) (xs : List Xfer) (k : State → Result) : Result :=
  let x := s.transfer spBased [] xs
  match x.stop with
  | none => k (x.state.setRegs x.loaded)
  | some e => x.partialState.abort e

/-- Loads of consecutive words from `addr` on, one to each register. -/
def loadXfers (addr : Word) : List Nat → List Xfer
  | [] => []
  | n :: ns => .load n addr :: loadXfers (addr + 4) ns

/-- Stores of the registers to consecutive words from `addr` on. -/
def State.storeXfers (s : State) (addr : Word) : List Nat → List Xfer
  | [] => []
  | n :: ns => .store (s.reg n) addr :: s.storeXfers (addr + 4) ns

/-- Stores of the registers to consecutive words downwards, the first one just below `addr`. -/
def State.pushXfers (s : State) (addr : Word) : List Nat → List Xfer
  | [] => []
  | n :: ns => .store (s.reg n) (addr - 4) :: s.pushXfers (addr - 4) ns

end Sys2Proof.Machine
end

