-- ==== Sys2Proof/Machine/AddSub.lean ====
section
/-! DEFINITION. The add and subtract instructions (40_addsub.md). -/

namespace Sys2Proof.Machine

/-- `x[RZ] <- x[RZ] + x[RX]` (rule R151). -/
def execAddu16 (rz rx : Nat) (s : State) : Result := s.binary 2 rz rz rx (· + ·)

/-- `x[RZ] <- x[RX] + x[RY]` (rule R152). -/
def execAddu16r (rz rx ry : Nat) (s : State) : Result := s.binary 2 rz rx ry (· + ·)

/-- `x[RZ] <- x[RX] + x[RY]` (rule R153). -/
def execAddu32 (rz rx ry : Nat) (s : State) : Result := s.binary 4 rz rx ry (· + ·)

/-- `x[RZ], C <- x[RZ] + x[RX] + C` (rule R154). -/
def execAddc16 (rz rx : Nat) (s : State) : Result := s.binaryC 2 rz rz rx addCarry

/-- `x[RZ], C <- x[RX] + x[RY] + C` (rule R155). -/
def execAddc32 (rz rx ry : Nat) (s : State) : Result := s.binaryC 4 rz rx ry addCarry

/-- `x[RZ] <- x[RZ] + OIMM8` (rule R156). -/
def execAddi16 (rz imm8 : Nat) (s : State) : Result := s.unary 2 rz rz (· + oimm imm8)

/-- `x[RZ] <- x[RX] + OIMM3` (rule R157). -/
def execAddi16r (rz rx imm3 : Nat) (s : State) : Result := s.unary 2 rz rx (· + oimm imm3)

/-- `x[RZ] <- x[RX] + OIMM12` (rule R158). -/
def execAddi32 (rz rx imm12 : Nat) (s : State) : Result := s.unary 4 rz rx (· + oimm imm12)

/-- `x[RZ] <- SP + (IMM8 << 2)` (rule R159). -/
def execAddi16sp (rz imm8 : Nat) (s : State) : Result := s.unary 2 rz 14 (· + scaled imm8 2)

/-- `SP <- SP + (IMM << 2)` (rule R160). -/
def execAddi16spsp (imm7 : Nat) (s : State) : Result := s.unary 2 14 14 (· + scaled imm7 2)

/-- `x[RZ] <- x[RZ] - x[RX]` (rule R161). -/
def execSubu16 (rz rx : Nat) (s : State) : Result := s.binary 2 rz rz rx (· - ·)

/-- `x[RZ] <- x[RX] - x[RY]` (rule R162). -/
def execSubu16r (rz rx ry : Nat) (s : State) : Result := s.binary 2 rz rx ry (· - ·)

/-- `x[RZ] <- x[RX] - x[RY]` (rule R163). -/
def execSubu32 (rz rx ry : Nat) (s : State) : Result := s.binary 4 rz rx ry (· - ·)

/-- `x[RZ], C <- x[RZ] - x[RX] - !C` (rule R164). -/
def execSubc16 (rz rx : Nat) (s : State) : Result := s.binaryC 2 rz rz rx subCarry

/-- `x[RZ], C <- x[RX] - x[RY] - !C` (rule R165). -/
def execSubc32 (rz rx ry : Nat) (s : State) : Result := s.binaryC 4 rz rx ry subCarry

/-- `x[RZ] <- x[RZ] - OIMM8` (rule R166). -/
def execSubi16 (rz imm8 : Nat) (s : State) : Result := s.unary 2 rz rz (· - oimm imm8)

/-- `x[RZ] <- x[RX] - OIMM3` (rule R167). -/
def execSubi16r (rz rx imm3 : Nat) (s : State) : Result := s.unary 2 rz rx (· - oimm imm3)

/-- `x[RZ] <- x[RX] - OIMM12` (rule R168). -/
def execSubi32 (rz rx imm12 : Nat) (s : State) : Result := s.unary 4 rz rx (· - oimm imm12)

/-- `SP <- SP - (IMM << 2)` (rule R169). -/
def execSubi16spsp (imm7 : Nat) (s : State) : Result := s.unary 2 14 14 (· - scaled imm7 2)

/-- `x[RZ] <- x[RY] - x[RX]` (rule R170). -/
def execRsub32 (rz rx ry : Nat) (s : State) : Result := s.binary 4 rz ry rx (· - ·)

/-- `x[RZ] <- x[RX] + (x[RY] << 1)` (rule R171). -/
def execIxh32 (rz rx ry : Nat) (s : State) : Result := s.binary 4 rz rx ry (fun a b => a + (b <<< 1))

/-- `x[RZ] <- x[RX] + (x[RY] << 2)` (rule R172). -/
def execIxw32 (rz rx ry : Nat) (s : State) : Result := s.binary 4 rz rx ry (fun a b => a + (b <<< 2))

/-- If C = 0 then `x[RZ] <- x[RX] + IMM5` (rule R173). -/
def execIncf32 (rz rx imm5 : Nat) (s : State) : Result := s.conditional 4 rz rx false (· + imm imm5)

/-- If C = 1 then `x[RZ] <- x[RX] + IMM5` (rule R174). -/
def execInct32 (rz rx imm5 : Nat) (s : State) : Result := s.conditional 4 rz rx true (· + imm imm5)

/-- If C = 0 then `x[RZ] <- x[RX] - IMM5` (rule R175). -/
def execDecf32 (rz rx imm5 : Nat) (s : State) : Result := s.conditional 4 rz rx false (· - imm imm5)

/-- If C = 1 then `x[RZ] <- x[RX] - IMM5` (rule R176). -/
def execDect32 (rz rx imm5 : Nat) (s : State) : Result := s.conditional 4 rz rx true (· - imm imm5)

end Sys2Proof.Machine
end

