-- ==== Sys2Proof/Machine/BitOps.lean ====
section
/-! DEFINITION. The bit, extract, byte-reverse, find-first and multiply instructions (45_bitops.md). -/

namespace Sys2Proof.Machine

/-- `x[RZ] <- x[RZ] & ~(1 << IMM5)` (rule R281). -/
def execBclri16 (rz imm5 : Nat) (s : State) : Result := s.unary 2 rz rz (· &&& ~~~(oneBit imm5))

/-- `x[RZ] <- x[RX] & ~(1 << IMM5)` (rule R282). -/
def execBclri32 (rz rx imm5 : Nat) (s : State) : Result := s.unary 4 rz rx (· &&& ~~~(oneBit imm5))

/-- `x[RZ] <- x[RZ] | (1 << IMM5)` (rule R283). -/
def execBseti16 (rz imm5 : Nat) (s : State) : Result := s.unary 2 rz rz (· ||| oneBit imm5)

/-- `x[RZ] <- x[RX] | (1 << IMM5)` (rule R284). -/
def execBseti32 (rz rx imm5 : Nat) (s : State) : Result := s.unary 4 rz rx (· ||| oneBit imm5)

/-- `C <- x[RX][IMM5]` (rule R285). -/
def execBtsti16 (rx imm5 : Nat) (s : State) : Result := s.test 2 rx (·.getLsbD imm5)

/-- `C <- x[RX][IMM5]` (rule R286). -/
def execBtsti32 (rx imm5 : Nat) (s : State) : Result := s.test 4 rx (·.getLsbD imm5)

/-- `x[RZ] <- 1 << IMM5` (rule R287). -/
def execBgeni32 (rz imm5 : Nat) (s : State) : Result := s.withRegs [rz] (s.result 4 rz (oneBit imm5))

/-- `x[RZ] <- ` bits IMM5 to 0 set; IMM5 below 16 has no meaning (92_eei_decisions.md D21) (rule R288). -/
def execBmaski32 (rz imm5 : Nat) (s : State) : Result :=
  s.withRegs [rz] (if imm5 < 16 then .refused .bmaskiSmall else s.result 4 rz (maskTo imm5))

/-- `x[RZ] <- ` the number of leading 1 bits of `x[RX]` (rule R289). -/
def execFf0 (rz rx : Nat) (s : State) : Result := s.unary 4 rz rx findFirst0

/-- `x[RZ] <- ` the number of leading 0 bits of `x[RX]` (rule R290). -/
def execFf1 (rz rx : Nat) (s : State) : Result := s.unary 4 rz rx findFirst1

/-- `x[RZ] <- x[RX][31:24]`, C its being nonzero (rule R291). -/
def execXtrb0 (rz rx : Nat) (s : State) : Result := s.unaryC 4 rz rx (fun a _ => extractByte a 3)

/-- `x[RZ] <- x[RX][23:16]`, C its being nonzero (rule R292). -/
def execXtrb1 (rz rx : Nat) (s : State) : Result := s.unaryC 4 rz rx (fun a _ => extractByte a 2)

/-- `x[RZ] <- x[RX][15:8]`, C its being nonzero (rule R293). -/
def execXtrb2 (rz rx : Nat) (s : State) : Result := s.unaryC 4 rz rx (fun a _ => extractByte a 1)

/-- `x[RZ] <- x[RX][7:0]`, C its being nonzero (rule R294). -/
def execXtrb3 (rz rx : Nat) (s : State) : Result := s.unaryC 4 rz rx (fun a _ => extractByte a 0)

/-- `x[RZ] <- zext(x[RX][7:0])` (rule R295). -/
def execZextb16 (rz rx : Nat) (s : State) : Result := s.unary 2 rz rx zextByte

/-- `x[RZ] <- zext(x[RX][15:0])` (rule R296). -/
def execZexth16 (rz rx : Nat) (s : State) : Result := s.unary 2 rz rx zextHalf

/-- `x[RZ] <- sext(x[RX][7:0])` (rule R297). -/
def execSextb16 (rz rx : Nat) (s : State) : Result := s.unary 2 rz rx sextByte

/-- `x[RZ] <- sext(x[RX][15:0])` (rule R298). -/
def execSexth16 (rz rx : Nat) (s : State) : Result := s.unary 2 rz rx sextHalf

/-- `x[RZ] <- x[RX] * x[RZ]` (rule R299). -/
def execMult16 (rz rx : Nat) (s : State) : Result := s.binary 2 rz rx rz (· * ·)

/-- `x[RZ] <- x[RX] * x[RY]` (rule R300). -/
def execMult32 (rz rx ry : Nat) (s : State) : Result := s.binary 4 rz rx ry (· * ·)

/-- `x[RZ] <- ` the bytes of `x[RX]` reversed (rule R301). -/
def execRevb16 (rz rx : Nat) (s : State) : Result := s.unary 2 rz rx reverseBytes

/-- `x[RZ] <- x[RX]` with the bytes of each halfword exchanged (rule R302). -/
def execRevh16 (rz rx : Nat) (s : State) : Result := s.unary 2 rz rx reverseHalfBytes

end Sys2Proof.Machine
end

