-- ==== Sys2Proof/Machine/Branch.lean ====
section
/-! DEFINITION. The branch and jump instructions (46_branch.md). -/

namespace Sys2Proof.Machine

/-- Branch to `target` if C is `when`, else go on (46_branch.md rule R310 e). -/
def State.branchIf (s : State) (when : Bool) (len : Nat) (target : Word) : Result :=
  .next (if s.psrC = when then s.jump target else s.advance len)

/-- Call: R15 gets the next instruction's address, then control goes to `target` (rules R319, R320). -/
def State.call (s : State) (len : Nat) (target : Word) : Result :=
  .next ((s.setReg 15 (s.pc + BitVec.ofNat 32 len)).jump target)

/-- `pc <- pc + sext(Offset << 1)` (rule R311). -/
def execBr16 (off10 : Nat) (s : State) : Result := .next (s.jump (s.relTarget 10 off10))

/-- `pc <- pc + sext(Offset << 1)` (rule R312). -/
def execBr32 (off16 : Nat) (s : State) : Result := .next (s.jump (s.relTarget 16 off16))

/-- Branch if C = 1 (rule R313). -/
def execBt16 (off10 : Nat) (s : State) : Result := s.branchIf true 2 (s.relTarget 10 off10)

/-- Branch if C = 1 (rule R314). -/
def execBt32 (off16 : Nat) (s : State) : Result := s.branchIf true 4 (s.relTarget 16 off16)

/-- Branch if C = 0 (rule R315). -/
def execBf16 (off10 : Nat) (s : State) : Result := s.branchIf false 2 (s.relTarget 10 off10)

/-- Branch if C = 0 (rule R317). -/
def execBf32 (off16 : Nat) (s : State) : Result := s.branchIf false 4 (s.relTarget 16 off16)

/-- `pc <- x[RX]`, bit 0 dropped (rule R316). -/
def execJmp16 (rx : Nat) (s : State) : Result := s.withRegs [rx] (.next (s.jump (s.reg rx)))

/-- `pc <- SVBR + (x[RX] & 0xFF) * imm`, bit 0 dropped; with `CFG_BCT` (rule R318). -/
def execJmpix16 (rx imm2 : Nat) (s : State) : Result :=
  s.requires s.cfg.bct (s.withRegs [rx] (.next (s.jump (s.svbr + (s.reg rx &&& 0xFF) * jmpixScale imm2))))

/-- `x[15] <- pc + 2; pc <- x[RX]`, the old RX (rule R319). -/
def execJsr16 (rx : Nat) (s : State) : Result := s.withRegs [rx] (s.call 2 (s.reg rx))

/-- `x[15] <- pc + 4; pc <- pc + sext(Offset << 1)` (rule R320). -/
def execBsr32 (off26 : Nat) (s : State) : Result := s.call 4 (s.relTarget 26 off26)

/-- `pc <- x[15]`, bit 0 dropped (rule R321). -/
def execRts16 (s : State) : Result := .next (s.jump (s.reg 15))

end Sys2Proof.Machine
end

