-- ==== Sys2Proof/Machine/Compare.lean ====
section
/-! DEFINITION. The compare and test instructions (43_compare.md). -/

namespace Sys2Proof.Machine

/-- `C <- x[RX] >=u x[RY]` (rule R241). -/
def execCmphs16 (rx ry : Nat) (s : State) : Result := s.compare 2 rx ry geU

/-- `C <- x[RX] >=u OIMM5` (rule R242). -/
def execCmphsi16 (rx imm5 : Nat) (s : State) : Result := s.test 2 rx (geU · (oimm imm5))

/-- `C <- x[RX] >=u OIMM16` (rule R243). -/
def execCmphsi32 (rx imm16 : Nat) (s : State) : Result := s.test 4 rx (geU · (oimm imm16))

/-- `C <- x[RX] <s x[RY]` (rule R244). -/
def execCmplt16 (rx ry : Nat) (s : State) : Result := s.compare 2 rx ry ltS

/-- `C <- x[RX] <s OIMM5` (rule R245). -/
def execCmplti16 (rx imm5 : Nat) (s : State) : Result := s.test 2 rx (ltS · (oimm imm5))

/-- `C <- x[RX] <s OIMM16` (rule R246). -/
def execCmplti32 (rx imm16 : Nat) (s : State) : Result := s.test 4 rx (ltS · (oimm imm16))

/-- `C <- x[RX] != x[RY]` (rule R247). -/
def execCmpne16 (rx ry : Nat) (s : State) : Result := s.compare 2 rx ry (· != ·)

/-- `C <- x[RX] != IMM5` (rule R248). -/
def execCmpnei16 (rx imm5 : Nat) (s : State) : Result := s.test 2 rx (· != imm imm5)

/-- `C <- x[RX] != IMM16` (rule R249). -/
def execCmpnei32 (rx imm16 : Nat) (s : State) : Result := s.test 4 rx (· != imm imm16)

/-- `C <- (x[RX] & x[RY]) != 0` (rule R250). -/
def execTst16 (rx ry : Nat) (s : State) : Result := s.compare 2 rx ry (fun a b => (a &&& b) != 0)

/-- `C <- ` no byte of `x[RX]` is 0 (rule R251). -/
def execTstnbz16 (rx : Nat) (s : State) : Result := s.test 2 rx noByteZero

end Sys2Proof.Machine
end

