-- ==== Sys2Proof/Machine/LoadStore.lean ====
section
/-! DEFINITION. The load and store instructions (47_loadstore.md). `Memory.load` zero extends. -/

namespace Sys2Proof.Machine

/-- `x[RZ] <- zext(MemRead(x[RX] + (Offset << 0), 1))` (rule R331). -/
def execLd16b (rz rx off5 : Nat) (s : State) : Result :=
  s.withRegs [rz, rx] (s.load 2 rz (s.baseOffset rx off5 0) .byte (rx == 14) (fun v => v))

/-- `x[RZ] <- zext(MemRead(x[RX] + (Offset << 0), 1))` (rule R332). -/
def execLd32b (rz rx off12 : Nat) (s : State) : Result :=
  s.withRegs [rz, rx] (s.load 4 rz (s.baseOffset rx off12 0) .byte (rx == 14) (fun v => v))

/-- `x[RZ] <- sext(MemRead(x[RX] + (Offset << 0), 1))` (rule R333). -/
def execLd32bs (rz rx off12 : Nat) (s : State) : Result :=
  s.withRegs [rz, rx] (s.load 4 rz (s.baseOffset rx off12 0) .byte (rx == 14) sextByte)

/-- `x[RZ] <- zext(MemRead(x[RX] + (Offset << 1), 2))` (rule R334). -/
def execLd16h (rz rx off5 : Nat) (s : State) : Result :=
  s.withRegs [rz, rx] (s.load 2 rz (s.baseOffset rx off5 1) .half (rx == 14) (fun v => v))

/-- `x[RZ] <- zext(MemRead(x[RX] + (Offset << 1), 2))` (rule R335). -/
def execLd32h (rz rx off12 : Nat) (s : State) : Result :=
  s.withRegs [rz, rx] (s.load 4 rz (s.baseOffset rx off12 1) .half (rx == 14) (fun v => v))

/-- `x[RZ] <- sext(MemRead(x[RX] + (Offset << 1), 2))` (rule R336). -/
def execLd32hs (rz rx off12 : Nat) (s : State) : Result :=
  s.withRegs [rz, rx] (s.load 4 rz (s.baseOffset rx off12 1) .half (rx == 14) sextHalf)

/-- `x[RZ] <- zext(MemRead(x[RX] + (Offset << 2), 4))` (rule R337). -/
def execLd16w (rz rx imm5 : Nat) (s : State) : Result :=
  s.withRegs [rz, rx] (s.load 2 rz (s.baseOffset rx imm5 2) .word (rx == 14) (fun v => v))

/-- `x[RZ] <- MemRead(SP + (IMM << 2), 4)` (rule R338). -/
def execLd16wsp (rz imm8 : Nat) (s : State) : Result :=
  s.withRegs [rz] (s.load 2 rz (s.baseOffset 14 imm8 2) .word true (fun v => v))

/-- `x[RZ] <- zext(MemRead(x[RX] + (Offset << 2), 4))` (rule R339). -/
def execLd32w (rz rx off12 : Nat) (s : State) : Result :=
  s.withRegs [rz, rx] (s.load 4 rz (s.baseOffset rx off12 2) .word (rx == 14) (fun v => v))

/-- `MemWrite(x[RX] + (Offset << 0), 1, x[RZ])` (rule R340). -/
def execSt16b (rz rx imm5 : Nat) (s : State) : Result :=
  s.withRegs [rz, rx] (s.store 2 (s.baseOffset rx imm5 0) .byte (rx == 14) (s.reg rz))

/-- `MemWrite(x[RX] + (Offset << 0), 1, x[RZ])` (rule R341). -/
def execSt32b (rz rx off12 : Nat) (s : State) : Result :=
  s.withRegs [rz, rx] (s.store 4 (s.baseOffset rx off12 0) .byte (rx == 14) (s.reg rz))

/-- `MemWrite(x[RX] + (Offset << 1), 2, x[RZ])` (rule R342). -/
def execSt16h (rz rx imm5 : Nat) (s : State) : Result :=
  s.withRegs [rz, rx] (s.store 2 (s.baseOffset rx imm5 1) .half (rx == 14) (s.reg rz))

/-- `MemWrite(x[RX] + (Offset << 1), 2, x[RZ])` (rule R343). -/
def execSt32h (rz rx off12 : Nat) (s : State) : Result :=
  s.withRegs [rz, rx] (s.store 4 (s.baseOffset rx off12 1) .half (rx == 14) (s.reg rz))

/-- `MemWrite(x[RX] + (Offset << 2), 4, x[RZ])` (rule R344). -/
def execSt16w (rz rx imm5 : Nat) (s : State) : Result :=
  s.withRegs [rz, rx] (s.store 2 (s.baseOffset rx imm5 2) .word (rx == 14) (s.reg rz))

/-- `MemWrite(SP + (IMM << 2), 4, x[RZ])` (rule R345). -/
def execSt16wsp (rz imm8 : Nat) (s : State) : Result :=
  s.withRegs [rz] (s.store 2 (s.baseOffset 14 imm8 2) .word true (s.reg rz))

/-- `MemWrite(x[RX] + (Offset << 2), 4, x[RZ])` (rule R346). -/
def execSt32w (rz rx off12 : Nat) (s : State) : Result :=
  s.withRegs [rz, rx] (s.store 4 (s.baseOffset rx off12 2) .word (rx == 14) (s.reg rz))

end Sys2Proof.Machine
end

