-- ==== Sys2Proof/Machine/Logic.lean ====
section
/-! DEFINITION. The logic instructions (41_logic.md). -/

namespace Sys2Proof.Machine

/-- `x[RZ] <- x[RZ] & x[RX]` (rule R191). -/
def execAnd16 (rz rx : Nat) (s : State) : Result := s.binary 2 rz rz rx (· &&& ·)

/-- `x[RZ] <- x[RX] & x[RY]` (rule R192). -/
def execAnd32 (rz rx ry : Nat) (s : State) : Result := s.binary 4 rz rx ry (· &&& ·)

/-- `x[RZ] <- x[RX] & IMM12` (rule R193). -/
def execAndi32 (rz rx imm12 : Nat) (s : State) : Result := s.unary 4 rz rx (· &&& imm imm12)

/-- `x[RZ] <- x[RZ] & ~x[RX]` (rule R194). -/
def execAndn16 (rz rx : Nat) (s : State) : Result := s.binary 2 rz rz rx (fun a b => a &&& ~~~b)

/-- `x[RZ] <- x[RX] & ~x[RY]` (rule R195). -/
def execAndn32 (rz rx ry : Nat) (s : State) : Result := s.binary 4 rz rx ry (fun a b => a &&& ~~~b)

/-- `x[RZ] <- x[RX] & ~IMM12` (rule R196). -/
def execAndni32 (rz rx imm12 : Nat) (s : State) : Result := s.unary 4 rz rx (· &&& ~~~(imm imm12))

/-- `x[RZ] <- x[RZ] | x[RX]` (rule R197). -/
def execOr16 (rz rx : Nat) (s : State) : Result := s.binary 2 rz rz rx (· ||| ·)

/-- `x[RZ] <- x[RX] | x[RY]` (rule R198). -/
def execOr32 (rz rx ry : Nat) (s : State) : Result := s.binary 4 rz rx ry (· ||| ·)

/-- `x[RZ] <- x[RX] | IMM16` (rule R199). -/
def execOri32 (rz rx imm16 : Nat) (s : State) : Result := s.unary 4 rz rx (· ||| imm imm16)

/-- `x[RZ] <- x[RZ] ^ x[RX]` (rule R200). -/
def execXor16 (rz rx : Nat) (s : State) : Result := s.binary 2 rz rz rx (· ^^^ ·)

/-- `x[RZ] <- x[RX] ^ x[RY]` (rule R201). -/
def execXor32 (rz rx ry : Nat) (s : State) : Result := s.binary 4 rz rx ry (· ^^^ ·)

/-- `x[RZ] <- x[RX] ^ IMM12` (rule R202). -/
def execXori32 (rz rx imm12 : Nat) (s : State) : Result := s.unary 4 rz rx (· ^^^ imm imm12)

/-- `x[RZ] <- ~(x[RZ] | x[RX])` (rule R203). -/
def execNor16 (rz rx : Nat) (s : State) : Result := s.binary 2 rz rz rx (fun a b => ~~~(a ||| b))

/-- `x[RZ] <- ~(x[RX] | x[RY])` (rule R204). -/
def execNor32 (rz rx ry : Nat) (s : State) : Result := s.binary 4 rz rx ry (fun a b => ~~~(a ||| b))

/-- `x[RZ] <- ~x[RZ]` (rule R205). -/
def execNot16 (rz : Nat) (s : State) : Result := s.unary 2 rz rz (~~~ ·)

/-- `x[RZ] <- ~x[RX]` (rule R206). -/
def execNot32 (rz rx : Nat) (s : State) : Result := s.unary 4 rz rx (~~~ ·)

end Sys2Proof.Machine
end

