-- ==== Sys2Proof/Machine/Multi.lean ====
section
/-! DEFINITION. The multi-register, stack and binary-translation stack instructions (48_multi.md). -/

namespace Sys2Proof.Machine

/-- The transfers of LDM (rule R361). -/
def State.ldmXfers (s : State) (ry rx imm5 : Nat) : List Xfer := loadXfers (s.reg rx) (rangeRegs ry imm5)

/-- The transfers of STM (rule R364). -/
def State.stmXfers (s : State) (ry rx imm5 : Nat) : List Xfer := s.storeXfers (s.reg rx) (rangeRegs ry imm5)

/-- The transfers of PUSH in time: the highest register first, each just below the one before (rule R366). -/
def State.pushListXfers (s : State) (regs : List Nat) : List Xfer := s.pushXfers s.sp regs.reverse

/-- The transfers of POP in time: the lowest register first (rule R367). -/
def State.popListXfers (s : State) (regs : List Nat) : List Xfer := loadXfers s.sp regs

/-- The stack pointer `n` words down. -/
def State.spDown (s : State) (n : Nat) : Word := s.sp - BitVec.ofNat 32 (4 * n)

/-- The stack pointer `n` words up. -/
def State.spUp (s : State) (n : Nat) : Word := s.sp + BitVec.ofNat 32 (4 * n)

/-- Load a range of registers; a base inside the range has no meaning (rule R361). -/
def State.loadRange (s : State) (ry rx imm5 : Nat) : Result :=
  s.withRegs (rx :: rangeRegs ry imm5)
    (if (rangeRegs ry imm5).contains rx then .refused .ldmBaseInRange
     else s.multi (rx == 14) (s.ldmXfers ry rx imm5) (fun t => .next (t.advance 4)))

/-- Store a range of registers (rule R364). -/
def State.storeRange (s : State) (ry rx imm5 : Nat) : Result :=
  s.withRegs (rx :: rangeRegs ry imm5)
    (s.multi (rx == 14) (s.stmXfers ry rx imm5) (fun t => .next (t.advance 4)))

/-- Push registers, given in ascending order (rules R366, R368). -/
def State.pushRegs (s : State) (regs : List Nat) : Result :=
  s.multi true (s.pushListXfers regs) (fun t => .next ((t.setReg 14 (s.spDown regs.length)).advance 2))

/-- `x[RY + n] <- MemRead(x[RX] + 4n, 4)` for n = 0 to IMM5 (rule R361). -/
def execLdm32 (ry rx imm5 : Nat) (s : State) : Result := s.loadRange ry rx imm5

/-- LDM of r4 to r7 (rule R362). -/
def execLdq32 (rx : Nat) (s : State) : Result := s.loadRange 4 rx 3

/-- `MemWrite(x[RX] + 4n, 4, x[RY + n])` for n = 0 to IMM5 (rule R364). -/
def execStm32 (ry rx imm5 : Nat) (s : State) : Result := s.storeRange ry rx imm5

/-- STM of r4 to r7 (rule R365). -/
def execStq32 (rx : Nat) (s : State) : Result := s.storeRange 4 rx 3

/-- Push the list (rule R366). -/
def execPush16 (r15 list1 : Nat) (s : State) : Result :=
  s.withRegs (listRegs r15 list1) (s.pushRegs (listRegs r15 list1))

/-- Pop the list, then return to R15, the value just loaded where the list has it (rule R367). -/
def execPop16 (r15 list1 : Nat) (s : State) : Result :=
  s.withRegs (listRegs r15 list1)
    (s.multi true (s.popListXfers (listRegs r15 list1)) (fun t =>
      .next ((t.setReg 14 (s.spUp (listRegs r15 list1).length)).jump (t.reg 15))))

/-- Push r13, r12, r3, r2, r1, r0; with `CFG_NEST` (rule R368). -/
def execIpush16 (s : State) : Result := s.requires s.cfg.nest (s.pushRegs ipushRegs)

/-- Pop what IPUSH pushed; with `CFG_NEST` (rule R369). -/
def execIpop16 (s : State) : Result :=
  s.requires s.cfg.nest
    (s.multi true (s.popListXfers ipushRegs) (fun t => .next ((t.setReg 14 (s.spUp 6)).advance 2)))

/-- The transfers of NIE (rule R370). -/
def State.nieXfers (s : State) : List Xfer := [.store s.epc (s.sp - 4), .store s.epsr (s.sp - 8)]

/-- Push EPC and EPSR, then set PSR.EE and PSR.IE; privileged, with `CFG_NEST` (rule R370). -/
def execNie16 (s : State) : Result :=
  s.requires s.cfg.nest (s.privileged
    (s.multi true s.nieXfers (fun t =>
      .next ({ t.setReg 14 (s.sp - 8) with psr := setBit (setBit s.psr 8 true) 6 true }.advance 2))))

/-- Pop EPSR and EPC and return through them; SP is the bank of the PSR before. Privileged, with `CFG_NEST` (rule
R371). -/
def execNir16 (s : State) : Result :=
  s.requires s.cfg.nest (s.privileged
    (match s.readData s.sp .word true true with
     | .error e => s.abort e
     | .ok w0 =>
       let t := (s.afterRead s.sp .word true true).landWrites
       match t.readData (s.sp + 4) .word true true with
       | .error e => t.abort e
       | .ok w1 =>
         .next { (t.afterRead (s.sp + 4) .word true true).setReg 14 (s.sp + 8) with epsr := w0 &&& psrMask s.cfg, epc := w1 }.returnFromException))

/-- The overflow of the binary-translation stack: the next instruction's address to R15, then to SVBR - 12 (rule
R379). -/
def State.bctOverflow (s : State) : Result := .next ((s.setReg 15 (s.pc + 2)).jump (s.svbr - 12))

/-- Push `w` onto the binary-translation stack unless BSP + n is above TOP (rules R379 to R381). -/
def State.bctPush (s : State) (rz : Nat) (w : Width) : Result :=
  s.requires s.cfg.bct (s.withRegs [rz]
    (if s.psrBM = false then .refused .bctModeOff
     else if s.top.toNat < s.bsp.toNat + w.bytes then s.bctOverflow
     else
       match s.writeData s.bsp w false false (s.reg rz) with
       | (t, none) => .next ((t.setReg 25 (s.bsp + BitVec.ofNat 32 w.bytes)).advance 2)
       | (t, some e) => t.abort e))

/-- Pop `w` from the binary-translation stack unless BSP - n is below FP' (rules R379, R382, R383). -/
def State.bctPop (s : State) (rz : Nat) (w : Width) : Result :=
  s.requires s.cfg.bct (s.withRegs [rz]
    (if s.psrBM = false then .refused .bctModeOff
     else if s.bsp.toNat < s.fpB.toNat + w.bytes then s.bctOverflow
     else
       let t := s.afterRead (s.bsp - BitVec.ofNat 32 w.bytes) w false false
       match s.readData (s.bsp - BitVec.ofNat 32 w.bytes) w false false with
       | .ok v => .next (((t.setReg 25 (s.bsp - BitVec.ofNat 32 w.bytes)).setReg rz v).advance 2)
       | .error e => t.abort e))

/-- Push the low halfword of RZ (rule R380). -/
def execBpush16h (rz : Nat) (s : State) : Result := s.bctPush rz .half

/-- Push RZ (rule R381). -/
def execBpush16w (rz : Nat) (s : State) : Result := s.bctPush rz .word

/-- Pop a halfword, zero extended, into RZ (rule R382). -/
def execBpop16h (rz : Nat) (s : State) : Result := s.bctPop rz .half

/-- Pop a word into RZ (rule R383). -/
def execBpop16w (rz : Nat) (s : State) : Result := s.bctPop rz .word

end Sys2Proof.Machine
end

