-- ==== Sys2Proof/Machine/Shift.lean ====
section
/-! DEFINITION. The shift and rotate instructions (42_shift.md). -/

namespace Sys2Proof.Machine

/-- `x[RZ] <- x[RZ] << x[RX][5:0]` (rule R211). -/
def execLsl16 (rz rx : Nat) (s : State) : Result := s.binary 2 rz rz rx (fun a b => shiftLeft a (shiftCount b))

/-- `x[RZ] <- x[RX] << x[RY][5:0]` (rule R212). -/
def execLsl32 (rz rx ry : Nat) (s : State) : Result := s.binary 4 rz rx ry (fun a b => shiftLeft a (shiftCount b))

/-- `x[RZ] <- x[RX] << IMM5` (rule R213). -/
def execLsli16 (rz rx imm5 : Nat) (s : State) : Result := s.unary 2 rz rx (shiftLeft · imm5)

/-- `x[RZ] <- x[RX] << IMM5` (rule R214). -/
def execLsli32 (rz rx imm5 : Nat) (s : State) : Result := s.unary 4 rz rx (shiftLeft · imm5)

/-- `x[RZ] <- x[RX] << OIMM5`, C the last bit shifted out (rule R215). -/
def execLslc32 (rz rx imm5 : Nat) (s : State) : Result := s.unaryC 4 rz rx (fun a _ => shiftLeftC a (imm5 + 1))

/-- `x[RZ] <- x[RZ] >> x[RX][5:0]` (rule R216). -/
def execLsr16 (rz rx : Nat) (s : State) : Result := s.binary 2 rz rz rx (fun a b => shiftRight a (shiftCount b))

/-- `x[RZ] <- x[RX] >> x[RY][5:0]` (rule R217). -/
def execLsr32 (rz rx ry : Nat) (s : State) : Result := s.binary 4 rz rx ry (fun a b => shiftRight a (shiftCount b))

/-- `x[RZ] <- x[RX] >> IMM5` (rule R218). -/
def execLsri16 (rz rx imm5 : Nat) (s : State) : Result := s.unary 2 rz rx (shiftRight · imm5)

/-- `x[RZ] <- x[RX] >> IMM5` (rule R219). -/
def execLsri32 (rz rx imm5 : Nat) (s : State) : Result := s.unary 4 rz rx (shiftRight · imm5)

/-- `x[RZ] <- x[RX] >> OIMM5`, C the last bit shifted out (rule R220). -/
def execLsrc32 (rz rx imm5 : Nat) (s : State) : Result := s.unaryC 4 rz rx (fun a _ => shiftRightC a (imm5 + 1))

/-- `x[RZ] <- x[RZ] >>> x[RX][5:0]` (rule R221). -/
def execAsr16 (rz rx : Nat) (s : State) : Result :=
  s.binary 2 rz rz rx (fun a b => shiftRightArith a (shiftCount b))

/-- `x[RZ] <- x[RX] >>> x[RY][5:0]` (rule R222). -/
def execAsr32 (rz rx ry : Nat) (s : State) : Result :=
  s.binary 4 rz rx ry (fun a b => shiftRightArith a (shiftCount b))

/-- `x[RZ] <- x[RX] >>> IMM5` (rule R223). -/
def execAsri16 (rz rx imm5 : Nat) (s : State) : Result := s.unary 2 rz rx (shiftRightArith · imm5)

/-- `x[RZ] <- x[RX] >>> IMM5` (rule R224). -/
def execAsri32 (rz rx imm5 : Nat) (s : State) : Result := s.unary 4 rz rx (shiftRightArith · imm5)

/-- `x[RZ] <- x[RX] >>> OIMM5`, C the last bit shifted out (rule R225). -/
def execAsrc32 (rz rx imm5 : Nat) (s : State) : Result :=
  s.unaryC 4 rz rx (fun a _ => shiftRightArithC a (imm5 + 1))

/-- `x[RZ] <- x[RZ] <<< x[RX][5:0]`, 0 for a count above 31 (rule R226). -/
def execRotl16 (rz rx : Nat) (s : State) : Result := s.binary 2 rz rz rx (fun a b => rotateLeftReg a (shiftCount b))

/-- `x[RZ] <- x[RX] <<< x[RY][5:0]`, 0 for a count above 31 (rule R227). -/
def execRotl32 (rz rx ry : Nat) (s : State) : Result :=
  s.binary 4 rz rx ry (fun a b => rotateLeftReg a (shiftCount b))

/-- `x[RZ] <- x[RX] <<< IMM5` (rule R228). -/
def execRotli32 (rz rx imm5 : Nat) (s : State) : Result := s.unary 4 rz rx (rotateLeft · imm5)

/-- `{x[RZ], C} <- {x[RX], C}` rotated right by OIMM5 in 33 bits (rule R229). -/
def execXsr32 (rz rx imm5 : Nat) (s : State) : Result := s.unaryC 4 rz rx (fun a c => rotateRightC a (imm5 + 1) c)

end Sys2Proof.Machine
end

