-- ==== Sys2Proof/Machine/System.lean ====
section
/-! DEFINITION. The control registers (10_state.md rules R30 to R60) and the control, privileged and special
instructions (49_system.md). -/

namespace Sys2Proof.Machine

/-- What CHR reads: ISE and IAE; SRST_VAL reads 0 (rule R48). -/
def State.chrValue (s : State) : Word :=
  setBit (setBit 0 s.cfg.chrIseBit s.chrIse) s.cfg.chrIaeBit s.chrIae

/-- What CCR reads: MP, and the pins BE, SCK and BE_V2 (rule R53). -/
def State.ccrValue (s : State) : Word :=
  s.ccrMp.setWidth 32 ||| (boolBit s.cfg.bigEndian s.cfg.ccrBeBit) ||| (s.cfg.sck.setWidth 32 <<< s.cfg.ccrSckLsb)
    ||| (boolBit s.cfg.beV2 s.cfg.ccrBeV2Bit)
where
  /-- The word with bit `i` set if `b`. -/
  boolBit (b : Bool) (i : Nat) : Word := setBit 0 i b

/-- What SGCR reads: SGE and SGP (rule R58). -/
def State.sgcrValue (s : State) : Word :=
  setBit (setBit 0 s.cfg.sgeBit s.sgcrSge) s.cfg.sgpBit s.sgcrSgp

/-- The memory protection unit is configured. -/
def State.hasMpu (s : State) : Bool := 0 < s.cfg.mpuRegions

/-- PRSR selects a region that exists (rule R56). -/
def State.ridValid (s : State) : Bool := s.hasMpu && decide (s.prsr.toNat < s.cfg.mpuRegions)

/-- The interrupt stack guard bounds are configured (rule R60). -/
def State.hasIntGuard (s : State) : Bool := s.cfg.stackGuard && s.cfg.intSp

/-- `v`, if the register is configured. -/
def ifConfigured {α : Type} (b : Bool) (v : α) : Option α := if b then some v else none

/-- What CR<n,sel> reads; none for a register that does not exist (rules R30, R31). -/
def State.readCr (s : State) (n sel : Nat) : Option Word :=
  match sel, n with
  | 0, 0 => some s.psr
  | 0, 1 => ifConfigured s.cfg.vbr s.vbr
  | 0, 2 => some s.epsr
  | 0, 4 => some s.epc
  | 0, 11 => ifConfigured (0 < s.cfg.gcrWidth) s.gcr
  | 0, 12 => ifConfigured (0 < s.cfg.gsrWidth) (s.gsr &&& lowMask s.cfg.gsrWidth)
  | 0, 13 => some s.cfg.cpuid
  | 0, 18 => some s.ccrValue
  | 0, 19 => ifConfigured s.hasMpu s.capr
  | 0, 20 => ifConfigured s.ridValid (s.region s.prsr.toNat)
  | 0, 21 => ifConfigured s.hasMpu (s.prsr.setWidth 32)
  | 0, 31 => some s.chrValue
  | 1, 14 => some s.userSp
  | 1, 15 => ifConfigured s.cfg.intSp s.intSp
  | 4, 0 => ifConfigured s.cfg.stackGuard s.sgcrValue
  | 4, 1 => ifConfigured s.cfg.stackGuard s.sgtr
  | 4, 2 => ifConfigured s.cfg.stackGuard s.sgbr
  | 4, 6 => ifConfigured s.hasIntGuard s.sgistr
  | 4, 7 => ifConfigured s.hasIntGuard s.sgisbr
  | _, _ => none

/-- The ordinary bits of CHR: ISE with `CFG_INT_SP`, and IAE (rules R48 to R50). -/
def State.writeChr (s : State) (v : Word) : State :=
  { s with
    chrIse := s.cfg.intSp && v.getLsbD s.cfg.chrIseBit
    chrIae := v.getLsbD s.cfg.chrIaeBit }

/-- The state after CR<n,sel> is written with `v`: reserved bits and read-only registers ignore the write (rules R31,
R40, R42 to R60). A software reset is not part of it. None for a register that does not exist. -/
def State.writeCr (s : State) (n sel : Nat) (v : Word) : Option State :=
  match sel, n with
  | 0, 0 => some (s.setPsr v)
  | 0, 1 => ifConfigured s.cfg.vbr { s with vbr := v &&& vbrMask }
  | 0, 2 => some { s with epsr := v &&& psrMask s.cfg }
  | 0, 4 => some { s with epc := v }
  | 0, 11 => ifConfigured (0 < s.cfg.gcrWidth) { s with gcr := v &&& lowMask s.cfg.gcrWidth }
  | 0, 12 => ifConfigured (0 < s.cfg.gsrWidth) s
  | 0, 13 => some s
  | 0, 18 => some { s with ccrMp := v.extractLsb' 0 2 }
  | 0, 19 => ifConfigured s.hasMpu { s with capr := v &&& caprMask s.cfg.mpuRegions }
  | 0, 20 => ifConfigured s.ridValid { s with pacr := s.pacr.setIfInBounds s.prsr.toNat (v &&& pacrMask) }
  | 0, 21 => ifConfigured s.hasMpu { s with prsr := v.extractLsb' 0 3 }
  | 0, 31 => some (s.writeChr v)
  | 1, 14 => some { s with userSp := v }
  | 1, 15 => ifConfigured s.cfg.intSp { s with intSp := v }
  | 4, 0 =>
    ifConfigured s.cfg.stackGuard
      { s with sgcrSge := v.getLsbD s.cfg.sgeBit, sgcrSgp := v.getLsbD s.cfg.sgpBit }
  | 4, 1 => ifConfigured s.cfg.stackGuard { s with sgtr := v }
  | 4, 2 => ifConfigured s.cfg.stackGuard { s with sgbr := v }
  | 4, 6 => ifConfigured s.hasIntGuard { s with sgistr := v }
  | 4, 7 => ifConfigured s.hasIntGuard { s with sgisbr := v }
  | _, _ => none

/-- Writing `v` to CR<n,sel> requests a software reset: it is CHR, and SRST_VAL is the key (rule R48). -/
def State.requestsReset (s : State) (n sel : Nat) (v : Word) : Bool :=
  n == 31 && sel == 0 && (v >>> s.cfg.chrSrstLsb).setWidth 16 == s.cfg.srstVal

/-- `x[RZ] <- cr[CRX, sel]`; privileged (rule R390). -/
def execMfcr32 (rz crx sel : Nat) (s : State) : Result :=
  s.privileged (s.withRegs [rz]
    (match s.readCr crx sel with
     | some v => s.result 4 rz v
     | none => .refused .unimplementedControlRegister))

/-- `cr[CRZ, sel] <- x[RX]`; privileged (rule R391). A software reset takes the place of the write, or with PSR.EE = 0
the unrecoverable exception does (70_reset_and_hazards.md rule R472). -/
def execMtcr32 (rx crz sel : Nat) (s : State) : Result :=
  s.privileged (s.withRegs [rx]
    (if s.requestsReset crz sel (s.reg rx) then (if s.psrEE then s.softReset else s.raise .softReset)
     else
       match s.writeCr crz sel (s.reg rx) with
       | some t => .next (t.advance 4)
       | none => .refused .unimplementedControlRegister))

/-- Return from exception; privileged (rule R393). -/
def execRte32 (s : State) : Result := s.privileged (.next s.returnFromException)

/-- Complete the instruction and enter a low-power state (rule R398). -/
def State.lowPower (s : State) (m : RunState) : Result := .next { s.advance 4 with run := m }

/-- Enter STOP; privileged (rule R394). -/
def execStop32 (s : State) : Result := s.privileged (s.lowPower .stop)

/-- Enter DOZE; privileged (rule R395). -/
def execDoze32 (s : State) : Result := s.privileged (s.lowPower .doze)

/-- Enter WAIT; privileged (rule R397). -/
def execWait32 (s : State) : Result := s.privileged (s.lowPower .wait)

/-- The stored-to locations after a SYNC: those the cache cannot hold an old copy of are visible after the next
control transfer (20_memory.md rule R107). -/
def State.syncStale (s : State) : List Stale :=
  let cacheOff := s.cfg.cache == .absent || !s.cer.getLsbD 0
  s.stale.map (fun x => if x.stage = .stored && !cacheOff then x else { x with stage := .synced })

/-- Wait until no operation is outstanding: on this blocking core, go on (rule R396). -/
def execSync32 (s : State) : Result := .next { s.advance 4 with stale := s.syncStale }

/-- Take the trap exception of vector 16 + n (rule R399). -/
def execTrap32 (n : Nat) (s : State) : Result := s.raise (.trap n)

/-- `PSR.BM <- 1`; with `CFG_BCT` (rule R400). -/
def execBmset32 (s : State) : Result := s.requires s.cfg.bct (.next ((s.setBM true).advance 4))

/-- `PSR.BM <- 0`; with `CFG_BCT` (rule R401). -/
def execBmclr32 (s : State) : Result := s.requires s.cfg.bct (.next ((s.setBM false).advance 4))

/-- Enter debug mode with CSR.FDB = 1, else take the breakpoint exception (rule R402). -/
def execBkpt16 (s : State) : Result :=
  if s.hadFdb then .next { s with run := .debug } else s.raise .breakpoint

end Sys2Proof.Machine
end

