-- ==== Sys2Proof/Machine/Transfer.lean ====
section
/-! DEFINITION. The data transfer instructions (44_transfer.md). -/

namespace Sys2Proof.Machine

/-- `x[RZ] <- x[RX]` (rule R261). -/
def execMov16 (rz rx : Nat) (s : State) : Result := s.unary 2 rz rx (fun a => a)

/-- `x[RZ] <- x[RX]` (rule R262). -/
def execMov32 (rz rx : Nat) (s : State) : Result := s.unary 4 rz rx (fun a => a)

/-- If C = 0 then `x[RZ] <- x[RX]` (rule R263). -/
def execMovf32 (rz rx : Nat) (s : State) : Result := s.conditional 4 rz rx false (fun a => a)

/-- If C = 1 then `x[RZ] <- x[RX]` (rule R264). -/
def execMovt32 (rz rx : Nat) (s : State) : Result := s.conditional 4 rz rx true (fun a => a)

/-- `x[RZ] <- IMM8` (rule R265). -/
def execMovi16 (rz imm8 : Nat) (s : State) : Result := s.withRegs [rz] (s.result 2 rz (imm imm8))

/-- `x[RZ] <- IMM16` (rule R266). -/
def execMovi32 (rz imm16 : Nat) (s : State) : Result := s.withRegs [rz] (s.result 4 rz (imm imm16))

/-- `x[RZ] <- IMM16 << 16` (rule R267). -/
def execMovih32 (rz imm16 : Nat) (s : State) : Result := s.withRegs [rz] (s.result 4 rz (imm imm16 <<< 16))

/-- `x[RZ] <- C` (rule R268). -/
def execMvc32 (rz : Nat) (s : State) : Result := s.withRegs [rz] (s.result 4 rz (boolWord s.psrC))

/-- `x[RZ] <- 1 - C` (rule R269). -/
def execMvcv16 (rz : Nat) (s : State) : Result := s.withRegs [rz] (s.result 2 rz (boolWord (!s.psrC)))

/-- `x[RZ] <- MemRead(literal, 4)` (rule R270). -/
def execLrw16 (rz imm1 imm7 : Nat) (s : State) : Result :=
  s.withRegs [rz] (s.load 2 rz (s.literalAddr (lrw16Offset imm1 imm7)) .word false (fun v => v))

/-- `x[RZ] <- MemRead(literal, 4)` (rule R271). -/
def execLrw32 (rz off16 : Nat) (s : State) : Result :=
  s.withRegs [rz] (s.load 4 rz (s.literalAddr off16) .word false (fun v => v))

/-- `x[RZ] <- pc + sext(Offset << 1)` (rule R272). -/
def execGrs32 (rz off18 : Nat) (s : State) : Result := s.withRegs [rz] (s.result 4 rz (s.relTarget 18 off18))

end Sys2Proof.Machine
end

