-- ==== Sys2Proof/Machine/Dispatch.lean ====
section
/-! DEFINITION. The meaning of every instruction, one arm per constructor. -/

namespace Sys2Proof.Machine

/-- Execute one instruction. -/
def exec (i : Instr) (s : State) : Host.Outcome State Fault Refusal :=
  match i with
  | .addu16 rz rx => Sys2Proof.Machine.execAddu16 rz rx s
  | .addu16r rz rx ry => Sys2Proof.Machine.execAddu16r rz rx ry s
  | .addu32 rz rx ry => Sys2Proof.Machine.execAddu32 rz rx ry s
  | .addc16 rz rx => Sys2Proof.Machine.execAddc16 rz rx s
  | .addc32 rz rx ry => Sys2Proof.Machine.execAddc32 rz rx ry s
  | .addi16 rz imm8 => Sys2Proof.Machine.execAddi16 rz imm8 s
  | .addi16r rz rx imm3 => Sys2Proof.Machine.execAddi16r rz rx imm3 s
  | .addi32 rz rx imm12 => Sys2Proof.Machine.execAddi32 rz rx imm12 s
  | .addi16sp rz imm8 => Sys2Proof.Machine.execAddi16sp rz imm8 s
  | .addi16spsp imm7 => Sys2Proof.Machine.execAddi16spsp imm7 s
  | .subu16 rz rx => Sys2Proof.Machine.execSubu16 rz rx s
  | .subu16r rz rx ry => Sys2Proof.Machine.execSubu16r rz rx ry s
  | .subu32 rz rx ry => Sys2Proof.Machine.execSubu32 rz rx ry s
  | .subc16 rz rx => Sys2Proof.Machine.execSubc16 rz rx s
  | .subc32 rz rx ry => Sys2Proof.Machine.execSubc32 rz rx ry s
  | .subi16 rz imm8 => Sys2Proof.Machine.execSubi16 rz imm8 s
  | .subi16r rz rx imm3 => Sys2Proof.Machine.execSubi16r rz rx imm3 s
  | .subi32 rz rx imm12 => Sys2Proof.Machine.execSubi32 rz rx imm12 s
  | .subi16spsp imm7 => Sys2Proof.Machine.execSubi16spsp imm7 s
  | .rsub32 rz rx ry => Sys2Proof.Machine.execRsub32 rz rx ry s
  | .ixh32 rz rx ry => Sys2Proof.Machine.execIxh32 rz rx ry s
  | .ixw32 rz rx ry => Sys2Proof.Machine.execIxw32 rz rx ry s
  | .incf32 rz rx imm5 => Sys2Proof.Machine.execIncf32 rz rx imm5 s
  | .inct32 rz rx imm5 => Sys2Proof.Machine.execInct32 rz rx imm5 s
  | .decf32 rz rx imm5 => Sys2Proof.Machine.execDecf32 rz rx imm5 s
  | .dect32 rz rx imm5 => Sys2Proof.Machine.execDect32 rz rx imm5 s
  | .and16 rz rx => Sys2Proof.Machine.execAnd16 rz rx s
  | .and32 rz rx ry => Sys2Proof.Machine.execAnd32 rz rx ry s
  | .andi32 rz rx imm12 => Sys2Proof.Machine.execAndi32 rz rx imm12 s
  | .andn16 rz rx => Sys2Proof.Machine.execAndn16 rz rx s
  | .andn32 rz rx ry => Sys2Proof.Machine.execAndn32 rz rx ry s
  | .andni32 rz rx imm12 => Sys2Proof.Machine.execAndni32 rz rx imm12 s
  | .or16 rz rx => Sys2Proof.Machine.execOr16 rz rx s
  | .or32 rz rx ry => Sys2Proof.Machine.execOr32 rz rx ry s
  | .ori32 rz rx imm16 => Sys2Proof.Machine.execOri32 rz rx imm16 s
  | .xor16 rz rx => Sys2Proof.Machine.execXor16 rz rx s
  | .xor32 rz rx ry => Sys2Proof.Machine.execXor32 rz rx ry s
  | .xori32 rz rx imm12 => Sys2Proof.Machine.execXori32 rz rx imm12 s
  | .nor16 rz rx => Sys2Proof.Machine.execNor16 rz rx s
  | .nor32 rz rx ry => Sys2Proof.Machine.execNor32 rz rx ry s
  | .not16 rz => Sys2Proof.Machine.execNot16 rz s
  | .not32 rz rx => Sys2Proof.Machine.execNot32 rz rx s
  | .lsl16 rz rx => Sys2Proof.Machine.execLsl16 rz rx s
  | .lsl32 rz rx ry => Sys2Proof.Machine.execLsl32 rz rx ry s
  | .lsli16 rz rx imm5 => Sys2Proof.Machine.execLsli16 rz rx imm5 s
  | .lsli32 rz rx imm5 => Sys2Proof.Machine.execLsli32 rz rx imm5 s
  | .lslc32 rz rx imm5 => Sys2Proof.Machine.execLslc32 rz rx imm5 s
  | .lsr16 rz rx => Sys2Proof.Machine.execLsr16 rz rx s
  | .lsr32 rz rx ry => Sys2Proof.Machine.execLsr32 rz rx ry s
  | .lsri16 rz rx imm5 => Sys2Proof.Machine.execLsri16 rz rx imm5 s
  | .lsri32 rz rx imm5 => Sys2Proof.Machine.execLsri32 rz rx imm5 s
  | .lsrc32 rz rx imm5 => Sys2Proof.Machine.execLsrc32 rz rx imm5 s
  | .asr16 rz rx => Sys2Proof.Machine.execAsr16 rz rx s
  | .asr32 rz rx ry => Sys2Proof.Machine.execAsr32 rz rx ry s
  | .asri16 rz rx imm5 => Sys2Proof.Machine.execAsri16 rz rx imm5 s
  | .asri32 rz rx imm5 => Sys2Proof.Machine.execAsri32 rz rx imm5 s
  | .asrc32 rz rx imm5 => Sys2Proof.Machine.execAsrc32 rz rx imm5 s
  | .rotl16 rz rx => Sys2Proof.Machine.execRotl16 rz rx s
  | .rotl32 rz rx ry => Sys2Proof.Machine.execRotl32 rz rx ry s
  | .rotli32 rz rx imm5 => Sys2Proof.Machine.execRotli32 rz rx imm5 s
  | .xsr32 rz rx imm5 => Sys2Proof.Machine.execXsr32 rz rx imm5 s
  | .cmphs16 rx ry => Sys2Proof.Machine.execCmphs16 rx ry s
  | .cmphsi16 rx imm5 => Sys2Proof.Machine.execCmphsi16 rx imm5 s
  | .cmphsi32 rx imm16 => Sys2Proof.Machine.execCmphsi32 rx imm16 s
  | .cmplt16 rx ry => Sys2Proof.Machine.execCmplt16 rx ry s
  | .cmplti16 rx imm5 => Sys2Proof.Machine.execCmplti16 rx imm5 s
  | .cmplti32 rx imm16 => Sys2Proof.Machine.execCmplti32 rx imm16 s
  | .cmpne16 rx ry => Sys2Proof.Machine.execCmpne16 rx ry s
  | .cmpnei16 rx imm5 => Sys2Proof.Machine.execCmpnei16 rx imm5 s
  | .cmpnei32 rx imm16 => Sys2Proof.Machine.execCmpnei32 rx imm16 s
  | .tst16 rx ry => Sys2Proof.Machine.execTst16 rx ry s
  | .tstnbz16 rx => Sys2Proof.Machine.execTstnbz16 rx s
  | .mov16 rz rx => Sys2Proof.Machine.execMov16 rz rx s
  | .mov32 rz rx => Sys2Proof.Machine.execMov32 rz rx s
  | .movf32 rz rx => Sys2Proof.Machine.execMovf32 rz rx s
  | .movt32 rz rx => Sys2Proof.Machine.execMovt32 rz rx s
  | .movi16 rz imm8 => Sys2Proof.Machine.execMovi16 rz imm8 s
  | .movi32 rz imm16 => Sys2Proof.Machine.execMovi32 rz imm16 s
  | .movih32 rz imm16 => Sys2Proof.Machine.execMovih32 rz imm16 s
  | .mvc32 rz => Sys2Proof.Machine.execMvc32 rz s
  | .mvcv16 rz => Sys2Proof.Machine.execMvcv16 rz s
  | .lrw16 rz imm1 imm7 => Sys2Proof.Machine.execLrw16 rz imm1 imm7 s
  | .lrw32 rz off16 => Sys2Proof.Machine.execLrw32 rz off16 s
  | .grs32 rz off18 => Sys2Proof.Machine.execGrs32 rz off18 s
  | .bclri16 rz imm5 => Sys2Proof.Machine.execBclri16 rz imm5 s
  | .bclri32 rz rx imm5 => Sys2Proof.Machine.execBclri32 rz rx imm5 s
  | .bseti16 rz imm5 => Sys2Proof.Machine.execBseti16 rz imm5 s
  | .bseti32 rz rx imm5 => Sys2Proof.Machine.execBseti32 rz rx imm5 s
  | .btsti16 rx imm5 => Sys2Proof.Machine.execBtsti16 rx imm5 s
  | .btsti32 rx imm5 => Sys2Proof.Machine.execBtsti32 rx imm5 s
  | .bgeni32 rz imm5 => Sys2Proof.Machine.execBgeni32 rz imm5 s
  | .bmaski32 rz imm5 => Sys2Proof.Machine.execBmaski32 rz imm5 s
  | .ff0 rz rx => Sys2Proof.Machine.execFf0 rz rx s
  | .ff1 rz rx => Sys2Proof.Machine.execFf1 rz rx s
  | .xtrb0 rz rx => Sys2Proof.Machine.execXtrb0 rz rx s
  | .xtrb1 rz rx => Sys2Proof.Machine.execXtrb1 rz rx s
  | .xtrb2 rz rx => Sys2Proof.Machine.execXtrb2 rz rx s
  | .xtrb3 rz rx => Sys2Proof.Machine.execXtrb3 rz rx s
  | .zextb16 rz rx => Sys2Proof.Machine.execZextb16 rz rx s
  | .zexth16 rz rx => Sys2Proof.Machine.execZexth16 rz rx s
  | .sextb16 rz rx => Sys2Proof.Machine.execSextb16 rz rx s
  | .sexth16 rz rx => Sys2Proof.Machine.execSexth16 rz rx s
  | .mult16 rz rx => Sys2Proof.Machine.execMult16 rz rx s
  | .mult32 rz rx ry => Sys2Proof.Machine.execMult32 rz rx ry s
  | .revb16 rz rx => Sys2Proof.Machine.execRevb16 rz rx s
  | .revh16 rz rx => Sys2Proof.Machine.execRevh16 rz rx s
  | .br16 off10 => Sys2Proof.Machine.execBr16 off10 s
  | .br32 off16 => Sys2Proof.Machine.execBr32 off16 s
  | .bt16 off10 => Sys2Proof.Machine.execBt16 off10 s
  | .bt32 off16 => Sys2Proof.Machine.execBt32 off16 s
  | .bf16 off10 => Sys2Proof.Machine.execBf16 off10 s
  | .jmp16 rx => Sys2Proof.Machine.execJmp16 rx s
  | .bf32 off16 => Sys2Proof.Machine.execBf32 off16 s
  | .jmpix16 rx imm2 => Sys2Proof.Machine.execJmpix16 rx imm2 s
  | .jsr16 rx => Sys2Proof.Machine.execJsr16 rx s
  | .bsr32 off26 => Sys2Proof.Machine.execBsr32 off26 s
  | .rts16 => Sys2Proof.Machine.execRts16 s
  | .ld16b rz rx off5 => Sys2Proof.Machine.execLd16b rz rx off5 s
  | .ld32b rz rx off12 => Sys2Proof.Machine.execLd32b rz rx off12 s
  | .ld32bs rz rx off12 => Sys2Proof.Machine.execLd32bs rz rx off12 s
  | .ld16h rz rx off5 => Sys2Proof.Machine.execLd16h rz rx off5 s
  | .ld32h rz rx off12 => Sys2Proof.Machine.execLd32h rz rx off12 s
  | .ld32hs rz rx off12 => Sys2Proof.Machine.execLd32hs rz rx off12 s
  | .ld16w rz rx imm5 => Sys2Proof.Machine.execLd16w rz rx imm5 s
  | .ld16wsp rz imm8 => Sys2Proof.Machine.execLd16wsp rz imm8 s
  | .ld32w rz rx off12 => Sys2Proof.Machine.execLd32w rz rx off12 s
  | .st16b rz rx imm5 => Sys2Proof.Machine.execSt16b rz rx imm5 s
  | .st32b rz rx off12 => Sys2Proof.Machine.execSt32b rz rx off12 s
  | .st16h rz rx imm5 => Sys2Proof.Machine.execSt16h rz rx imm5 s
  | .st32h rz rx off12 => Sys2Proof.Machine.execSt32h rz rx off12 s
  | .st16w rz rx imm5 => Sys2Proof.Machine.execSt16w rz rx imm5 s
  | .st16wsp rz imm8 => Sys2Proof.Machine.execSt16wsp rz imm8 s
  | .st32w rz rx off12 => Sys2Proof.Machine.execSt32w rz rx off12 s
  | .ldm32 ry rx imm5 => Sys2Proof.Machine.execLdm32 ry rx imm5 s
  | .ldq32 rx => Sys2Proof.Machine.execLdq32 rx s
  | .stm32 ry rx imm5 => Sys2Proof.Machine.execStm32 ry rx imm5 s
  | .stq32 rx => Sys2Proof.Machine.execStq32 rx s
  | .push16 r15 list1 => Sys2Proof.Machine.execPush16 r15 list1 s
  | .pop16 r15 list1 => Sys2Proof.Machine.execPop16 r15 list1 s
  | .ipush16 => Sys2Proof.Machine.execIpush16 s
  | .ipop16 => Sys2Proof.Machine.execIpop16 s
  | .nie16 => Sys2Proof.Machine.execNie16 s
  | .nir16 => Sys2Proof.Machine.execNir16 s
  | .bpush16h rz => Sys2Proof.Machine.execBpush16h rz s
  | .bpush16w rz => Sys2Proof.Machine.execBpush16w rz s
  | .bpop16h rz => Sys2Proof.Machine.execBpop16h rz s
  | .bpop16w rz => Sys2Proof.Machine.execBpop16w rz s
  | .mfcr32 rz crx sel => Sys2Proof.Machine.execMfcr32 rz crx sel s
  | .mtcr32 rx crz sel => Sys2Proof.Machine.execMtcr32 rx crz sel s
  | .rte32 => Sys2Proof.Machine.execRte32 s
  | .stop32 => Sys2Proof.Machine.execStop32 s
  | .doze32 => Sys2Proof.Machine.execDoze32 s
  | .sync32 => Sys2Proof.Machine.execSync32 s
  | .wait32 => Sys2Proof.Machine.execWait32 s
  | .trap32 n => Sys2Proof.Machine.execTrap32 n s
  | .bmset32 => Sys2Proof.Machine.execBmset32 s
  | .bmclr32 => Sys2Proof.Machine.execBmclr32 s
  | .bkpt16 => Sys2Proof.Machine.execBkpt16 s

end Sys2Proof.Machine
end

