-- ==== Sys2Proof/Machine/Run.lean ====
section
/-! DEFINITION. One step of the machine: fetching and decoding (30_encoding.md rule R121), the boundary between two
instructions (60_exceptions.md rules R428 to R448), the run states (rules R459 to R466) and the moves of the
environment (70_reset_and_hazards.md rule R499). -/

namespace Sys2Proof.Machine

/-! ### Fetching -/

/-- Fetch the instruction at PC and decode it: the second parcel of a 32-bit word is fetched before the word is judged
(rule R121). -/
def State.fetchInstr (s : State) : Except Abort (Except Reject Instr) :=
  match s.fetchParcel s.pc with
  | .error e => .error e
  | .ok h0 =>
    if isLong h0.toNat then
      match (s.afterTransfer s.pc .half .fetch false).fetchParcel (s.pc + 2) with
      | .error e => .error e
      | .ok h1 => .ok (decodeParcels h0.toNat h1.toNat)
    else .ok (decodeParcels h0.toNat 0)

/-- What fetching the instruction at PC leaves in the cache. -/
def State.afterFetch (s : State) : State :=
  if s.cacheOn then
    match s.fetchParcel s.pc with
    | .error _ => s
    | .ok h0 =>
      let t := s.afterTransfer s.pc .half .fetch false
      if isLong h0.toNat then t.afterTransfer (s.pc + 2) .half .fetch false else t
  else s

/-- Run the instruction at PC; a word that decodes to none is an illegal instruction (30_encoding.md rule R143). -/
def State.runInstr (s : State) : Result :=
  match s.fetchInstr with
  | .error e => s.afterFetch.abort e
  | .ok (.error _) => s.afterFetch.raise .illegal
  | .ok (.ok i) => exec i s.afterFetch

/-! ### Interrupts -/

/-- The interrupt that can be taken: a request with PSR.IE = 1 and PSR.EE = 1 (rule R441). -/
def State.deliverable (s : State) : Option (BitVec 8) := if s.psrIE && s.psrEE then s.irq else none

/-- The transfers of an instruction that PSR.IC lets be interrupted, and whether R14 is its base: the list of rule R445,
for a form that runs. -/
def instrTransfers (i : Instr) (s : State) : Option (Bool × List Xfer) :=
  match i with
  | .ldm32 ry rx n => ldm ry rx n
  | .ldq32 rx => ldm 4 rx 3
  | .stm32 ry rx n => stm ry rx n
  | .stq32 rx => stm 4 rx 3
  | .push16 r15 list1 => some (true, s.pushListXfers (listRegs r15 list1))
  | .pop16 r15 list1 => some (true, s.popListXfers (listRegs r15 list1))
  | .ipush16 => if s.cfg.nest then some (true, s.pushListXfers ipushRegs) else none
  | .ipop16 => if s.cfg.nest then some (true, s.popListXfers ipushRegs) else none
  | _ => none
where
  /-- Those of LDM. -/
  ldm (ry rx n : Nat) : Option (Bool × List Xfer) :=
    if (rx :: rangeRegs ry n).all s.hasReg && !(rangeRegs ry n).contains rx then
      some (rx == 14, s.ldmXfers ry rx n)
    else none
  /-- Those of STM. -/
  stm (ry rx n : Nat) : Option (Bool × List Xfer) :=
    if (rx :: rangeRegs ry n).all s.hasReg then some (rx == 14, s.stmXfers ry rx n) else none

/-- The transfers of every multi-access instruction: those above, and those of NIE and NIR, which no interrupt enters
(48_multi.md rule R360 d). -/
def multiTransfers (i : Instr) (s : State) : Option (Bool × List Xfer) :=
  match i with
  | .nie16 => if s.cfg.nest && s.psrS then some (true, s.nieXfers) else none
  | .nir16 => if s.cfg.nest && s.psrS then some (true, [.load 14 s.sp, .load 14 (s.sp + 4)]) else none
  | i => instrTransfers i s

/-- The halfword or word access of a single-access instruction that gets as far as making it: address, width, whether R14
is its base, and the value of a store. -/
def singleAccess (i : Instr) (s : State) : Option (Word × Width × Bool × Option Word) :=
  match i with
  | .ld16h rz rx n => based rz rx (s.baseOffset rx n 1) .half none
  | .ld32h rz rx n => based rz rx (s.baseOffset rx n 1) .half none
  | .ld32hs rz rx n => based rz rx (s.baseOffset rx n 1) .half none
  | .ld16w rz rx n => based rz rx (s.baseOffset rx n 2) .word none
  | .ld32w rz rx n => based rz rx (s.baseOffset rx n 2) .word none
  | .ld16wsp rz n => based rz 14 (s.baseOffset 14 n 2) .word none
  | .st16h rz rx n => based rz rx (s.baseOffset rx n 1) .half (some (s.reg rz))
  | .st32h rz rx n => based rz rx (s.baseOffset rx n 1) .half (some (s.reg rz))
  | .st16w rz rx n => based rz rx (s.baseOffset rx n 2) .word (some (s.reg rz))
  | .st32w rz rx n => based rz rx (s.baseOffset rx n 2) .word (some (s.reg rz))
  | .st16wsp rz n => based rz 14 (s.baseOffset 14 n 2) .word (some (s.reg rz))
  | .bpush16h rz => push rz .half
  | .bpush16w rz => push rz .word
  | .bpop16h rz => pop rz .half
  | .bpop16w rz => pop rz .word
  | _ => none
where
  /-- An ordinary load or store. -/
  based (rz rx : Nat) (a : Word) (w : Width) (v : Option Word) : Option (Word × Width × Bool × Option Word) :=
    if s.hasReg rz && s.hasReg rx then some (a, w, rx == 14, v) else none
  /-- A push onto the binary-translation stack that does not overflow. -/
  push (rz : Nat) (w : Width) : Option (Word × Width × Bool × Option Word) :=
    if s.cfg.bct && s.hasReg rz && s.psrBM && decide (s.bsp.toNat + w.bytes ≤ s.top.toNat) then
      some (s.bsp, w, false, some (s.reg rz))
    else none
  /-- A pop from it that does not overflow. -/
  pop (rz : Nat) (w : Width) : Option (Word × Width × Bool × Option Word) :=
    if s.cfg.bct && s.hasReg rz && s.psrBM && decide (s.fpB.toNat + w.bytes ≤ s.bsp.toNat) then
      some (s.bsp - BitVec.ofNat 32 w.bytes, w, false, none)
    else none

/-- The instruction takes the misaligned access exception (20_memory.md rules R75, R79). -/
def State.misaligns (s : State) (i : Instr) : Bool :=
  match multiTransfers i s with
  | some (_, x :: _) => !Width.word.aligned x.addr
  | some (_, []) => false
  | none =>
    match singleAccess i s with
    | some (a, w, _, _) => !w.aligned a && !s.psrMM
    | none => false

/-- The instruction at PC would take the misaligned access exception (rule R448 c, assumption 33). -/
def State.misalignedNext (s : State) : Bool :=
  match s.fetchInstr with
  | .ok (.ok i) => s.misaligns i
  | _ => false

/-- Take the interrupt at this boundary, unless the instruction there has a misaligned access to report first (rule
R448 c), also where the interrupt ends low power, which rule R465 does not except (DESIGN CHOICE, assumption 64). A
software reset that the instruction would request comes after it (DESIGN CHOICE, assumption 62). -/
def State.takeInterrupt (s : State) (v : BitVec 8) : Result :=
  if s.misalignedNext then s.runInstr else s.takeException (.interrupt v) s.pc

/-- Perform `k` transfers of the instruction at PC, then abandon it for the interrupt: the partial state of 48_multi.md
rule R360 c, and EPC the instruction itself (rule R445). Where that cannot be, take the interrupt before it. -/
def State.cutInstr (s : State) (v : BitVec 8) (k : Nat) : Result :=
  match s.fetchInstr with
  | .ok (.ok i) =>
    match instrTransfers i s with
    | some (spBased, xs) =>
      if s.psrIC && decide (0 < k) && decide (k < xs.length) then
        let x := s.afterFetch.transfer spBased [] (xs.take k)
        match x.stop with
        | some e => x.partialState.abort e
        | none => x.partialState.takeException (.interrupt v) s.pc
      else s.takeInterrupt v
    | none => s.takeInterrupt v
  | _ => s.takeInterrupt v

/-- What the first `k` transfers of the instruction `i` leave (70_reset_and_hazards.md rule R470). -/
def State.firstTransfers (s : State) (i : Instr) (k : Nat) : State :=
  match multiTransfers i s with
  | some (spBased, xs) => (s.transfer spBased [] (xs.take k)).state
  | none =>
    match singleAccess i s with
    | some (a, w, spBased, some v) =>
      if s.psrMM && s.cfg.unalignedHw && !w.aligned a then
        (s.writeSplit a w.bytes spBased v ((writeParts (a.toNat % 4) w).take k)).1
      else s
    | _ => s

/-- What the first `k` transfers of the instruction at PC leave, if one starts there now; it goes no further (rule
R470). -/
def State.abandonInstr (s : State) (k : Nat) : State :=
  if s.run = .normal && !(s.dpPending && s.psrEE) && s.deliverable.isNone then
    match s.fetchInstr with
    | .ok (.ok i) => s.firstTransfers i k
    | _ => s
  else s

/-! ### The boundary and the run states -/

/-- An instruction boundary: a pending address watch, then an interrupt, then the instruction (rules R437, R448). A bkpt16
that would enter debug mode is no debug request before it executes, so an interrupt comes before it (DESIGN CHOICE,
assumption 57). -/
def State.boundary (s : State) (cut : Option Nat) : Result :=
  if s.dpPending && s.psrEE then { s with dpPending := false }.takeException .addressWatch s.pc
  else
    match s.deliverable, cut with
    | none, _ => s.runInstr
    | some v, none => s.takeInterrupt v
    | some v, some k => s.cutInstr v k

/-- The core's step in its run state: an interrupt request ends low power and is taken at that boundary, inside no
instruction, after what comes before an interrupt at any boundary (DESIGN CHOICE, assumption 64); debug and violation
execute nothing (rules R461, R463, R465). -/
def State.coreStep (s : State) (cut : Option Nat) : Result :=
  match s.run with
  | .normal => s.boundary cut
  | .stop | .doze | .wait => if s.irq.isSome then { s with run := .normal }.boundary none else .next s
  | .debug | .violation => .next s

/-! ### The environment -/

/-- The vector of an interrupt request is allowed: 32 to 255, or 22 with a VIC (rules R415, R424). -/
def State.vectorAllowed (s : State) (v : BitVec 8) : Bool :=
  decide (32 ≤ v.toNat) || (v == 22 && s.cfg.vic ≠ .absent)

/-- Every general register and bank cleared (10_state.md rule R25, 92_eei_decisions.md D7). -/
def State.clearRegisters (s : State) : State :=
  { s with
    r := Vector.replicate 14 0
    lr := 0
    userSp := 0
    spvSp := 0
    intSp := 0
    fpB := 0
    top := 0
    bsp := 0
    svbr := 0 }

/-- An address-watch hit (rules R422, R437, R460): debug mode with CSR.MBEE = 0; else the exception, or the pending bit
while PSR.EE = 0. A hit that was pending stays so beside a new one (DESIGN CHOICE, assumption 61). -/
def State.addressWatch (s : State) : Result :=
  if s.run ≠ .normal then .next s
  else if !s.hadMbee then .next { s with run := .debug }
  else if s.psrEE then s.takeException .addressWatch s.pc
  else .next { s with dpPending := true }

/-- The debugger writes a control register; a software reset leaves the core in debug mode (rule R461). -/
def State.debugWriteCr (s : State) (n sel : Nat) (v : Word) : Result :=
  if s.requestsReset n sel v then
    match s.softReset with
    | .next t => .next { t with run := .debug }
    | r => r
  else
    match s.writeCr n sel v with
    | some t => .next t
    | none => .refused .environment

/-- The debugger stores a word to a tightly coupled register (rule R461). -/
def State.debugWriteTcip (s : State) (a v : Word) : Result :=
  match s.tcipReg a .word with
  | .ok (some g) => if s.cfg.tcip && isTcip a then .next (s.writeTcip g v) else .refused .environment
  | _ => .refused .environment

/-- The core is in low power (rule R465). -/
def State.inLowPower (s : State) : Bool := s.run == .stop || s.run == .doze || s.run == .wait

/-- What the debugger does, which it does only in debug mode (rule R461). -/
def State.inDebug (s : State) (k : Result) : Result := if s.run = .debug then k else .refused .environment

/-- One move of the environment (70_reset_and_hazards.md rule R499). The general-register reset and a security violation
come between two steps, never part way through a multi-access instruction (DESIGN CHOICE, assumption 58). -/
def State.applyMove (s : State) : Move → Result
  | .run => s.coreStep none
  | .cut k => s.coreStep (some k)
  | .reset => s.takeReset
  | .resetIn k => (s.abandonInstr k).takeReset
  | .irq v => if s.vectorAllowed v then .next { s with irq := some v } else .refused .environment
  | .irqOff => .next { s with irq := none }
  | .wake => .next (if s.inLowPower then { s with run := .normal } else s)
  | .gsr v => .next { s with gsr := v }
  | .debugRequest => .next (if s.run = .violation then s else { s with run := .debug })
  | .debugResume => s.inDebug (.next { s with run := .normal })
  | .debugReg n v => s.inDebug (if s.hasReg n then .next (s.setReg n v) else .refused .environment)
  | .debugCr n sel v => s.inDebug (s.debugWriteCr n sel v)
  | .debugPc v => s.inDebug (.next { s with pc := evenAddr v })
  | .debugMem a b => s.inDebug (.next (s.externalWrite a b))
  | .debugTcip a v => s.inDebug (s.debugWriteTcip a v)
  | .debugDp b => s.inDebug (.next { s with dpPending := b })
  | .hadFdb b => .next { s with hadFdb := b }
  | .hadMbee b => .next { s with hadMbee := b }
  | .watch => s.addressWatch
  | .memWrite a b => .next (s.externalWrite a b)
  | .between ws => .next { s with between := ws }
  | .answers gs => .next (s.setAnswers gs)
  | .onReset x => .next { s with onReset := x }
  | .gprReset => if s.cfg.security && s.cfg.gprReset then .next s.clearRegisters else .refused .environment
  | .violation =>
    if !s.cfg.security then .refused .environment
    else .next (if s.run = .debug then s else { s with run := .violation })

/-- Count the step, and end the pulse of a software reset request (rule R472). -/
def State.tick (s : State) : State := { s with free := s.free + 1, resetRequest := false }

/-- One step: the environment's next move, or with none left the core's own step. -/
def State.stepBody (s : State) : Result :=
  match s.moves with
  | [] => s.tick.coreStep none
  | m :: ms => { s.tick with moves := ms }.applyMove m

/-! ### Placing an instruction -/

/-- Put bytes at consecutive addresses. -/
def Memory.setBytes (m : Memory) (a : Word) : List Byte → Memory
  | [] => m
  | b :: bs => Memory.setBytes (Memory.setByte m a b) (a + 1) bs

/-- Each pair of bytes exchanged: parcels in big-endian order (20_memory.md rule R73). -/
def swapPairs : List Byte → List Byte
  | b0 :: b1 :: bs => b1 :: b0 :: swapPairs bs
  | bs => bs

/-- Place the bytes of an opcode-table word at PC, and let nothing come before the fetch there. -/
def State.placeFetchWord (s : State) (nbits w : Nat) : State :=
  let bytes := tableBytes nbits w
  { s with
    mem := Memory.setBytes s.mem s.pc (if s.cfg.bigEndian then swapPairs bytes else bytes)
    stale := s.stale.filter (fun x => !(byteAddrs s.pc 4).contains x.addr)
    moves := []
    irq := none
    dpPending := false
    run := .normal }

end Sys2Proof.Machine
end

