-- ==== Sys2Proof/Machine/Step.lean ====
section
/-! DEFINITION. The machine's step, and a state whose next step runs a given instruction. -/

namespace Sys2Proof.Machine

/-- One step of the machine. -/
def step (s : State) : Host.Outcome State Fault Refusal := s.stepBody

/-- `s` with the instruction whose opcode-table bits are `w` where `step` fetches next (assumption 6). -/
def State.withFetchWord (s : State) (nbits w : Nat) : State := s.placeFetchWord nbits w

end Sys2Proof.Machine
end

