-- ==== Sys2Proof/Safety.lean ====
section
/-! DEFINITION. What the statements speak of: the end of a run, the invariant of the machine, what an instruction
leaves unchanged, and when an access is performed. -/

namespace Sys2Proof.Machine

/-! ### The end of a run -/

/-- The move takes the core out of low power: an interrupt or debug request, the fast interrupt input, or a reset. -/
def Move.wakes : Move → Bool
  | .irq _ | .wake | .debugRequest | .reset | .resetIn _ => true
  | _ => false

/-- The run has ended (70_reset_and_hazards.md rule R498): low power with no request now or to come, debug mode, or the PC
at `END_PC`. -/
def State.runEnded (s : State) : Bool :=
  match s.run with
  | .debug => true
  | .stop | .doze | .wait => (s.irq.isNone && !s.moves.any Move.wakes) || s.cfg.endPc == some s.pc
  | .normal => s.cfg.endPc == some s.pc
  | .violation => false

/-! ### The invariant -/

/-- The memory is canonical, the PC even, and every control register holds only bits it implements (10_state.md
rules R26, R31, R32, R39, R42, R43, R45, R49, R54, R55; 20_memory.md rules R110, R112; 60_exceptions.md rule R464). -/
structure State.Inv (s : State) : Prop where
  /-- The memory has its canonical form. -/
  mem : s.mem.wf = true
  /-- Bit 0 of the PC is 0. -/
  pc : s.pc.getLsbD 0 = false
  /-- PSR's reserved bits are 0, and BM without `CFG_BCT`. -/
  psr : s.psr &&& ~~~(psrMask s.cfg) = 0
  /-- EPSR implements the bits of PSR. -/
  epsr : s.epsr &&& ~~~(psrMask s.cfg) = 0
  /-- VBR is 1KB aligned. -/
  vbr : s.vbr &&& ~~~vbrMask = 0
  /-- GCR has its configured width. -/
  gcr : s.gcr &&& ~~~(lowMask s.cfg.gcrWidth) = 0
  /-- CAPR has fields for the configured regions only. -/
  capr : s.capr &&& ~~~(caprMask s.cfg.mpuRegions) = 0
  /-- Bit 6 of every region's PACR is 0. -/
  pacr : ∀ i : Fin 8, s.pacr[i] &&& ~~~pacrMask = 0
  /-- CHR.ISE is 0 without `CFG_INT_SP`. -/
  chrIse : s.cfg.intSp = false → s.chrIse = false
  /-- CER has two bits. -/
  cer : s.cer &&& ~~~3#32 = 0
  /-- Bits 9:6 of every CRCR are 0. -/
  crcr : ∀ i : Fin 4, s.crcr[i] &&& ~~~crcrMask = 0
  /-- SECR has the fields of the configured mechanisms only. -/
  secr : s.secr &&& ~~~(secrMask s.cfg) = 0

/-! ### Frames -/

/-- The stack pointer register of a bank. -/
def State.spOf (s : State) : Bank → Word
  | .user => s.userSp
  | .supervisor => s.spvSp
  | .interrupt => s.intSp

/-- Every control register but PSR, EPSR and EPC, and every other piece of state that no instruction but those that
name it writes: all of State but the general registers, PC, PSR, EPSR, EPC, memory, the marks on what was stored to
(`stale`), what the cache may hold (`held`, `old`), and another master's writes that still wait (`between`). -/
structure SameControl (s t : State) : Prop where
  cfg : t.cfg = s.cfg
  vbr : t.vbr = s.vbr
  gcr : t.gcr = s.gcr
  gsr : t.gsr = s.gsr
  chrIse : t.chrIse = s.chrIse
  chrIae : t.chrIae = s.chrIae
  ccrMp : t.ccrMp = s.ccrMp
  capr : t.capr = s.capr
  pacr : t.pacr = s.pacr
  prsr : t.prsr = s.prsr
  sgcrSge : t.sgcrSge = s.sgcrSge
  sgcrSgp : t.sgcrSgp = s.sgcrSgp
  sgtr : t.sgtr = s.sgtr
  sgbr : t.sgbr = s.sgbr
  sgistr : t.sgistr = s.sgistr
  sgisbr : t.sgisbr = s.sgisbr
  cer : t.cer = s.cer
  cirWritten : t.cirWritten = s.cirWritten
  crcr : t.crcr = s.crcr
  secr : t.secr = s.secr
  dpPending : t.dpPending = s.dpPending
  hadFdb : t.hadFdb = s.hadFdb
  hadMbee : t.hadMbee = s.hadMbee
  irq : t.irq = s.irq
  run : t.run = s.run
  answers : t.answers = s.answers
  resetRequest : t.resetRequest = s.resetRequest
  onReset : t.onReset = s.onReset
  moves : t.moves = s.moves
  free : t.free = s.free

/-- The registers an exception saves into are unchanged. -/
def SameSaved (s t : State) : Prop := t.epsr = s.epsr ∧ t.epc = s.epc

/-- Every byte of memory reads as before. -/
def SameMemory (s t : State) : Prop := ∀ x : Word, t.mem.byteAt x = s.mem.byteAt x

/-- Every general register but those in `d` is unchanged, and so is every bank of R14 that R14 does not name. -/
def RegsExcept (s t : State) (d : List Nat) : Prop :=
  (∀ n, n ∉ d → t.reg n = s.reg n) ∧ ∀ b, b ≠ s.bank14 → t.spOf b = s.spOf b

/-- No general register and no bank of R14 has changed. -/
def SameRegs (s t : State) : Prop :=
  t.r = s.r ∧ t.lr = s.lr ∧ (∀ b, t.spOf b = s.spOf b) ∧ t.fpB = s.fpB ∧ t.top = s.top ∧ t.bsp = s.bsp ∧ t.svbr = s.svbr

/-- PSR.C is `c` and every other bit of PSR is unchanged. -/
def OnlyC (s t : State) (c : Bool) : Prop :=
  t.psrC = c ∧ ∀ k, 0 < k → t.psr.getLsbD k = s.psr.getLsbD k

/-- `t` is `s` with `v` in register `rz` and the PC `len` on: nothing else has changed, no byte of memory. -/
def Writes (s t : State) (rz : Nat) (v : Word) (len : Nat) : Prop :=
  t.reg rz = v ∧ RegsExcept s t [rz] ∧ t.psr = s.psr ∧ SameSaved s t ∧ SameControl s t ∧ SameMemory s t
    ∧ t.pc = s.pc + BitVec.ofNat 32 len

/-- `Writes`, and PSR.C is `c`. -/
def WritesC (s t : State) (rz : Nat) (v : Word) (c : Bool) (len : Nat) : Prop :=
  t.reg rz = v ∧ RegsExcept s t [rz] ∧ OnlyC s t c ∧ SameSaved s t ∧ SameControl s t ∧ SameMemory s t
    ∧ t.pc = s.pc + BitVec.ofNat 32 len

/-- `t` is `s` with PSR.C being `c` and the PC `len` on: nothing else has changed. -/
def SetsC (s t : State) (c : Bool) (len : Nat) : Prop :=
  SameRegs s t ∧ OnlyC s t c ∧ SameSaved s t ∧ SameControl s t ∧ SameMemory s t
    ∧ t.pc = s.pc + BitVec.ofNat 32 len

/-- `t` is `s` at the address `a`: nothing but the PC has changed. -/
def GoesTo (s t : State) (a : Word) : Prop :=
  SameRegs s t ∧ t.psr = s.psr ∧ SameSaved s t ∧ SameControl s t ∧ SameMemory s t ∧ t.pc = a

/-- `t` is `s` with `v` in R15, at the address `a`. -/
def Links (s t : State) (v a : Word) : Prop :=
  t.reg 15 = v ∧ RegsExcept s t [15] ∧ t.psr = s.psr ∧ SameSaved s t ∧ SameControl s t ∧ SameMemory s t ∧ t.pc = a

/-- The `w.bytes` bytes at `a` hold the low bytes of `v`, and every other byte of memory is as before. -/
def Stored (s t : State) (a : Word) (w : Width) (v : Word) : Prop :=
  t.mem.load s.cfg.bigEndian a w = v &&& lowMask (8 * w.bytes)
    ∧ ∀ x, w.covers a x = false → t.mem.byteAt x = s.mem.byteAt x

/-- The instruction stored `v` at `a` and went on: no register, flag or control register has changed. -/
def Stores (s t : State) (a : Word) (w : Width) (v : Word) (len : Nat) : Prop :=
  Stored s t a w v ∧ SameRegs s t ∧ t.psr = s.psr ∧ SameSaved s t ∧ SameControl s t
    ∧ t.pc = s.pc + BitVec.ofNat 32 len

/-- The words of `vs` are in memory from `a` on, and every other byte is as before. -/
def StoredWords (s t : State) (a : Word) (vs : List Word) : Prop :=
  (∀ k (h : k < vs.length), t.mem.load s.cfg.bigEndian (a + BitVec.ofNat 32 (4 * k)) .word = vs[k])
    ∧ ∀ x : Word, 4 * vs.length ≤ (x - a).toNat → t.mem.byteAt x = s.mem.byteAt x

/-! ### Reset -/

/-- What the system does with its devices and memory at a reset of the core has been done, once: the ranges answer as it
says, its bytes are in memory, the last one written to an address staying, and every other byte is as before
(70_reset_and_hazards.md rules R471, R472). -/
def SystemAnswered (s t : State) : Prop :=
  t.answers = s.onReset.answers.getD s.answers ∧ t.onReset = SystemReset.keep
    ∧ (∀ x, (∀ p ∈ s.onReset.writes, p.1 ≠ x) → t.mem.byteAt x = s.mem.byteAt x)
    ∧ ∀ ps p qs, s.onReset.writes = ps ++ p :: qs → (∀ q ∈ qs, q.1 ≠ p.1) → t.mem.byteAt p.1 = p.2

/-- The reset transition from `s` led to `t`: the reset values that 10_state.md rule R63 gives, and the PC at the even
address in the word at 0 (70_reset_and_hazards.md rule R470). -/
def ResetDone (s t : State) : Prop :=
  t.psr = 0x80000000 ∧ t.vbr = 0 ∧ t.capr = 0 ∧ t.ccrMp = 0 ∧ t.cer = 0 ∧ (∀ i : Fin 4, t.crcr[i] = 0)
    ∧ (∀ i : Fin 8, (t.pacr[i]).getLsbD 0 = false) ∧ t.sgcrSge = false ∧ t.sgcrSgp = false ∧ t.chrIse = false
    ∧ t.chrIae = false ∧ t.dpPending = false ∧ SystemAnswered s t
    ∧ t.pc = t.mem.load s.cfg.bigEndian 0 .word &&& 0xFFFFFFFE

/-- The word at address 0 can be read after the reset: memory answers there, as the system has left it. -/
def ResetVectorReads (s : State) : Prop := s.systemReset.resetRegisters.slave .fetch false 0 = some .ram

/-! ### Completion -/

/-- Executing the instruction answers a next state with the property. -/
def Completes (i : Instr) (s : State) (p : State → Prop) : Prop := ∃ t, exec i s = .next t ∧ p t

/-- One step answers a next state with the property. -/
def StepsTo (s : State) (p : State → Prop) : Prop := ∃ t, step s = .next t ∧ p t

/-! ### When an access is performed -/

/-- An aligned data access of memory that the core lets pass: R14's bounds, the mode, the memory protection unit, and
memory that answers it at the address; not through the cache. -/
def Allowed (s : State) (a : Word) (w : Width) (k : AccessKind) (spBased : Bool) : Prop :=
  w.aligned a = true ∧ s.checkAccess a w k spBased = .ok () ∧ (s.cfg.tcip && isTcip a) = false
    ∧ s.slave k false a = some .ram ∧ s.isCached a k = .ok false

/-- Every word of `n` consecutive words from `a` on is such an access, and no other bus master writes between them. -/
def AllowedWords (s : State) (a : Word) (n : Nat) (k : AccessKind) (spBased : Bool) : Prop :=
  s.between = [] ∧ ∀ j < n, Allowed s (a + BitVec.ofNat 32 (4 * j)) .word k spBased

/-- An aligned access of the instruction or system bus that passes the core's checks, and that the platform answers with
ERROR: nothing is at the address, or what is there refuses it, and no line of the cache can answer a read (20_memory.md
rules R89, R106). -/
def AnsweredError (s : State) (a : Word) (w : Width) (k : AccessKind) (spBased : Bool) : Prop :=
  s.checkAccess a w k spBased = .ok () ∧ (s.cfg.tcip && isTcip a) = false ∧ ∃ cached, s.isCached a k = .ok cached ∧
    (k ≠ .write → cached = true → s.hit a w = none) ∧
    (s.slave k cached a = none ∨ s.slave k cached a = some .error)

/-- An aligned access that is an access error: the core's checks refuse it, or the platform does (60_exceptions.md rule
R413). -/
def AccessRefused (s : State) (a : Word) (w : Width) (k : AccessKind) (spBased : Bool) : Prop :=
  s.checkAccess a w k spBased = .error (.raise .accessError) ∨ AnsweredError s a w k spBased

/-- A signed field of `w` bits as a number (30_encoding.md rule R135 d). -/
def signedField (w n : Nat) : Int := if n < 2 ^ (w - 1) then (n : Int) else (n : Int) - 2 ^ w

/-- The access of a load or store whose registers exist: its address, size, kind, and whether R14 is the base
(47_loadstore.md rules R331 to R346, 44_transfer.md rules R270, R271). -/
def dataAccess (s : State) : Instr → Option (Word × Width × AccessKind × Bool)
  | .ld16b rz rx off => based rz rx off 0 .byte .read
  | .ld32b rz rx off => based rz rx off 0 .byte .read
  | .ld32bs rz rx off => based rz rx off 0 .byte .read
  | .ld16h rz rx off => based rz rx off 1 .half .read
  | .ld32h rz rx off => based rz rx off 1 .half .read
  | .ld32hs rz rx off => based rz rx off 1 .half .read
  | .ld16w rz rx off => based rz rx off 2 .word .read
  | .ld16wsp rz off => based rz 14 off 2 .word .read
  | .ld32w rz rx off => based rz rx off 2 .word .read
  | .st16b rz rx off => based rz rx off 0 .byte .write
  | .st32b rz rx off => based rz rx off 0 .byte .write
  | .st16h rz rx off => based rz rx off 1 .half .write
  | .st32h rz rx off => based rz rx off 1 .half .write
  | .st16w rz rx off => based rz rx off 2 .word .write
  | .st16wsp rz off => based rz 14 off 2 .word .write
  | .st32w rz rx off => based rz rx off 2 .word .write
  | .lrw16 rz imm1 imm7 =>
    if s.hasReg rz then some (s.literalAddr (lrw16Offset imm1 imm7), .word, .read, false) else none
  | .lrw32 rz off => if s.hasReg rz then some (s.literalAddr off, .word, .read, false) else none
  | _ => none
where
  /-- The access of base register `rx` and offset `off` scaled by 2 ^ `k`. -/
  based (rz rx off k : Nat) (w : Width) (kind : AccessKind) : Option (Word × Width × AccessKind × Bool) :=
    if s.hasReg rz && s.hasReg rx then some (s.baseOffset rx off k, w, kind, rx == 14) else none

/-- The transfers of a multi-access instruction whose registers exist: the registers in ascending order, the address of
the first one's word, the kind, and whether R14 is the base. These are the eight that PSR.IC lets be interrupted
(48_multi.md rules R361 to R369, 60_exceptions.md rule R445). -/
def multiAccess (s : State) : Instr → Option (List Nat × Word × AccessKind × Bool)
  | .ldm32 ry rx n => range ry rx n .read
  | .ldq32 rx => range 4 rx 3 .read
  | .stm32 ry rx n => range ry rx n .write
  | .stq32 rx => range 4 rx 3 .write
  | .push16 r15 list1 => if list1 ≤ 8 then some (push (listRegs r15 list1)) else none
  | .pop16 r15 list1 => if list1 ≤ 8 then some (listRegs r15 list1, s.sp, .read, true) else none
  | .ipush16 => if s.cfg.nest then some (push ipushRegs) else none
  | .ipop16 => if s.cfg.nest then some (ipushRegs, s.sp, .read, true) else none
  | _ => none
where
  /-- LDM and STM; the base of a load is outside the range. -/
  range (ry rx n : Nat) (kind : AccessKind) : Option (List Nat × Word × AccessKind × Bool) :=
    if (rx :: rangeRegs ry n).all s.hasReg && (kind == .write || !(rangeRegs ry n).contains rx) then
      some (rangeRegs ry n, s.reg rx, kind, rx == 14)
    else none
  /-- PUSH and IPUSH. -/
  push (regs : List Nat) : List Nat × Word × AccessKind × Bool :=
    (regs, s.sp - BitVec.ofNat 32 (4 * regs.length), .write, true)

/-- The instruction makes its transfers from the highest address down (48_multi.md rule R366). -/
def goesDown : Instr → Bool
  | .push16 _ _ | .ipush16 => true
  | _ => false

/-- The registers of the first `k` transfers, in ascending order. -/
def doneRegs (i : Instr) (regs : List Nat) (k : Nat) : List Nat :=
  if goesDown i then regs.drop (regs.length - k) else regs.take k

/-- The lowest address of the first `k` transfers. -/
def doneAddr (i : Instr) (regs : List Nat) (a : Word) (k : Nat) : Word :=
  if goesDown i then a + BitVec.ofNat 32 (4 * (regs.length - k)) else a

/-- The address of the transfer after the first `k`. -/
def nextAddr (i : Instr) (regs : List Nat) (a : Word) (k : Nat) : Word :=
  if goesDown i then a + BitVec.ofNat 32 (4 * (regs.length - k - 1)) else a + BitVec.ofNat 32 (4 * k)

/-- What part of a multi-access instruction leaves, `regs` the registers transferred and `a` the address of the first one's
word (48_multi.md rule R360 c): stored words stay and no register has changed; a loaded register holds its old or its
loaded value, and no other has changed. R14 names another bank after an exception, so it is left to its banks. -/
def PartDone (s t : State) (regs : List Nat) (a : Word) : AccessKind → Prop
  | .write => StoredWords s t a (regs.map s.reg) ∧ SameRegs s t
  | _ =>
    SameMemory s t ∧ (∀ n, n ∉ regs → n ≠ 14 → t.reg n = s.reg n) ∧ (14 ∉ regs → ∀ b, t.spOf b = s.spOf b) ∧
      ∀ j (h : j < regs.length), regs[j] ≠ 14 → t.reg regs[j] = s.reg regs[j] ∨
        t.reg regs[j] = s.mem.load s.cfg.bigEndian (a + BitVec.ofNat 32 (4 * j)) .word

/-- An instruction parcel can be fetched at `a` and none of its bytes waits to be made visible (20_memory.md rules R73,
R107). -/
def Fetchable (s : State) (a : Word) : Prop :=
  s.checkAccess a .half .fetch false = .ok () ∧ (s.cfg.tcip && isTcip a) = false
    ∧ s.slave .fetch false a = some .ram ∧ s.isCached a .fetch = .ok false
    ∧ (s.cfg.smcCoherent = true ∨ ∀ x ∈ s.stale, x.addr ≠ a.toNat ∧ x.addr ≠ (a + 1).toNat)

/-- Nothing comes before the instruction at PC: no move of the environment, normal run state, no pending address watch
that can be taken, no interrupt that can be taken (60_exceptions.md rules R437, R441). -/
def Undisturbed (s : State) : Prop :=
  s.moves = [] ∧ s.run = .normal ∧ (s.dpPending = false ∨ s.psrEE = false)
    ∧ (s.irq = none ∨ s.psrIE = false ∨ s.psrEE = false)

/-- The four bytes from the PC on. -/
def State.bytesAtPc (s : State) : List Byte :=
  [s.mem.byteAt s.pc, s.mem.byteAt (s.pc + 1), s.mem.byteAt (s.pc + 2), s.mem.byteAt (s.pc + 3)]

/-- The region word's range holds address `a`: Base to Base + 2 ^ (Size + 1) (10_state.md rule R55). -/
def InRegion (p a : Word) : Prop :=
  p.toNat / 128 * 128 ≤ a.toNat ∧ a.toNat < p.toNat / 128 * 128 + 2 ^ (p.toNat / 2 % 32 + 1)

/-- The region word is enabled. -/
def RegionOn (p : Word) : Prop := p.toNat % 2 = 1

/-- The region word's Size is legal and its Base a multiple of the region's size. -/
def RegionLegal (p : Word) : Prop :=
  6 ≤ p.toNat / 2 % 32 ∧ p.toNat / 128 * 128 % 2 ^ (p.toNat / 2 % 32 + 1) = 0

/-- Region `i` controls address `a`: it holds it, and no enabled region above it does (20_memory.md rule R95). -/
def Controls (s : State) (i : Nat) (a : Word) : Prop :=
  i < s.cfg.mpuRegions ∧ RegionOn (s.region i) ∧ InRegion (s.region i) a
    ∧ ∀ j, i < j → j < s.cfg.mpuRegions → RegionOn (s.region j) → ¬ InRegion (s.region j) a

/-- The permission table of 20_memory.md rule R96, with AP the number in CAPR and NX its bit. -/
def Permitted (supervisor : Bool) (ap : Nat) (nx : Bool) : AccessKind → Prop
  | .read => if supervisor then ap ≠ 0 else 2 ≤ ap
  | .write => if supervisor then ap ≠ 0 else ap = 3
  | .fetch => nx = false ∧ if supervisor then ap ≠ 0 else 2 ≤ ap

/-! ### Registers that exist -/

/-- The general registers that the fields of an instruction name (30_encoding.md rule R123), and those of its range. -/
def namedRegs : Instr → List Nat
  | .addu16 rz rx | .addc16 rz rx | .subu16 rz rx | .subc16 rz rx | .and16 rz rx | .andn16 rz rx
  | .or16 rz rx | .xor16 rz rx | .nor16 rz rx | .not32 rz rx | .lsl16 rz rx | .lsr16 rz rx
  | .asr16 rz rx | .rotl16 rz rx | .mov16 rz rx | .mov32 rz rx | .movf32 rz rx | .movt32 rz rx
  | .ff0 rz rx | .ff1 rz rx | .xtrb0 rz rx | .xtrb1 rz rx | .xtrb2 rz rx | .xtrb3 rz rx
  | .zextb16 rz rx | .zexth16 rz rx | .sextb16 rz rx | .sexth16 rz rx | .mult16 rz rx
  | .revb16 rz rx | .revh16 rz rx | .addi16r rz rx _ | .addi32 rz rx _ | .subi16r rz rx _
  | .subi32 rz rx _ | .incf32 rz rx _ | .inct32 rz rx _ | .decf32 rz rx _ | .dect32 rz rx _
  | .andi32 rz rx _ | .andni32 rz rx _ | .ori32 rz rx _ | .xori32 rz rx _ | .lsli16 rz rx _
  | .lsli32 rz rx _ | .lslc32 rz rx _ | .lsri16 rz rx _ | .lsri32 rz rx _ | .lsrc32 rz rx _
  | .asri16 rz rx _ | .asri32 rz rx _ | .asrc32 rz rx _ | .rotli32 rz rx _ | .xsr32 rz rx _
  | .bclri32 rz rx _ | .bseti32 rz rx _ | .ld16b rz rx _ | .ld32b rz rx _ | .ld32bs rz rx _
  | .ld16h rz rx _ | .ld32h rz rx _ | .ld32hs rz rx _ | .ld16w rz rx _ | .ld32w rz rx _
  | .st16b rz rx _ | .st32b rz rx _ | .st16h rz rx _ | .st32h rz rx _ | .st16w rz rx _
  | .st32w rz rx _ => [rz, rx]
  | .addu16r rz rx ry | .addu32 rz rx ry | .addc32 rz rx ry | .subu16r rz rx ry | .subu32 rz rx ry
  | .subc32 rz rx ry | .rsub32 rz rx ry | .ixh32 rz rx ry | .ixw32 rz rx ry | .and32 rz rx ry
  | .andn32 rz rx ry | .or32 rz rx ry | .xor32 rz rx ry | .nor32 rz rx ry | .lsl32 rz rx ry
  | .lsr32 rz rx ry | .asr32 rz rx ry | .rotl32 rz rx ry | .mult32 rz rx ry => [rz, rx, ry]
  | .addi16 rz _ | .addi16sp rz _ | .subi16 rz _ | .movi16 rz _ | .movi32 rz _ | .movih32 rz _
  | .lrw32 rz _ | .grs32 rz _ | .bclri16 rz _ | .bseti16 rz _ | .bgeni32 rz _ | .bmaski32 rz _
  | .ld16wsp rz _ | .st16wsp rz _ | .not16 rz | .mvc32 rz | .mvcv16 rz | .bpush16h rz
  | .bpush16w rz | .bpop16h rz | .bpop16w rz | .lrw16 rz _ _ | .mfcr32 rz _ _ => [rz]
  | .addi16spsp _ | .subi16spsp _ | .br16 _ | .br32 _ | .bt16 _ | .bt32 _ | .bf16 _ | .bf32 _
  | .bsr32 _ | .trap32 _ | .rts16 | .ipush16 | .ipop16 | .nie16 | .nir16 | .rte32 | .stop32
  | .doze32 | .sync32 | .wait32 | .bmset32 | .bmclr32 | .bkpt16 | .push16 _ _ | .pop16 _ _ => []
  | .cmphs16 rx ry | .cmplt16 rx ry | .cmpne16 rx ry | .tst16 rx ry => [rx, ry]
  | .cmphsi16 rx _ | .cmphsi32 rx _ | .cmplti16 rx _ | .cmplti32 rx _ | .cmpnei16 rx _
  | .cmpnei32 rx _ | .btsti16 rx _ | .btsti32 rx _ | .jmpix16 rx _ | .tstnbz16 rx | .jmp16 rx
  | .jsr16 rx | .ldq32 rx | .stq32 rx | .mtcr32 rx _ _ => [rx]
  | .ldm32 ry rx n | .stm32 ry rx n => rx :: rangeRegs ry n

/-- CR<n,sel> is in the table of 10_state.md rule R30 and its option is configured. -/
def CrExists (c : Config) (n sel : Nat) : Prop :=
  (n, sel) ∈ [(0, 0), (2, 0), (4, 0), (13, 0), (18, 0), (31, 0), (14, 1)] ∨ c.vbr = true ∧ (n, sel) = (1, 0) ∨
    0 < c.gcrWidth ∧ (n, sel) = (11, 0) ∨ 0 < c.gsrWidth ∧ (n, sel) = (12, 0) ∨
    0 < c.mpuRegions ∧ (n, sel) ∈ [(19, 0), (20, 0), (21, 0)] ∨ c.intSp = true ∧ (n, sel) = (15, 1) ∨
    c.stackGuard = true ∧ (n, sel) ∈ [(0, 4), (1, 4), (2, 4)] ∨
    c.stackGuard = true ∧ c.intSp = true ∧ (n, sel) ∈ [(6, 4), (7, 4)]

/-! ### Exceptions -/

/-- `t` is the state right after entering vector `vec` from `s` with return address `ret` and the vector's word `w`
(60_exceptions.md rules R425, R426): EPSR and EPC saved, S = 1, VEC the vector, EE = IE = 0, every other bit of PSR, every
general register, every other control register and memory unchanged. -/
def Entered (s t : State) (vec : BitVec 8) (ret w : Word) : Prop :=
  t.epsr = s.psr ∧ t.epc = ret ∧ t.psrS = true ∧ t.psrVec = vec ∧ t.psrEE = false ∧ t.psrIE = false
    ∧ (∀ k, (k < 16 ∨ 24 ≤ k) → k ≠ 6 → k ≠ 8 → k ≠ 31 → t.psr.getLsbD k = s.psr.getLsbD k)
    ∧ t.pc = evenAddr w ∧ SameRegs s t ∧ SameControl s t ∧ SameMemory s t

/-- The vector a synchronous exception uses: 8 with PSR.EE = 0 (60_exceptions.md rule R434). -/
def syncVector (s : State) (vec : BitVec 8) : BitVec 8 := if s.psrEE then vec else 8

/-- The word of vector `vec` can be read on entry from `s`, and is `w`. -/
def VectorReads (s : State) (vec : BitVec 8) (ret w : Word) : Prop := (s.enter vec ret).vectorWord vec = .ok w

/-- Executing the instruction takes a synchronous exception of vector `vec`, for every word of the vector that can be
read. -/
def Traps (i : Instr) (s : State) (vec : BitVec 8) : Prop :=
  ∀ w, VectorReads s (syncVector s vec) s.pc w →
    Completes i s (fun t => Entered s t (syncVector s vec) s.pc w)

end Sys2Proof.Machine
end

