-- ==== Sys2Proof/Certificates/Slice0/Obligations.lean ====
section
/-! DEFINITION. The statements about the model, each with the rules of the spec it formalises. -/

open Sys2Proof Sys2Proof.Machine

/-- Decoding an encoded well-formed instruction gives it back (R121, R136, R138, R139, R140, R141, R142, R143). -/
def Obligations.decode_of_encode : Prop :=
  ∀ (i : Instr) (rest : List Byte), i.wf = true → decodeBytes (encode i ++ rest) = .ok i.core

/-- A word that decodes is the word of the instruction it decodes to (R121, R136, R138, R139, R140, R141, R142, R143).
That no bit of a word is ignored is the spec's decision D20 with its items U15 and U17, log 23: hardware may ignore a
bit that is printed as 0. -/
def Obligations.encode_of_decode : Prop :=
  ∀ (h0 h1 : Nat) (i : Instr), h0 < 65536 → h1 < 65536 → decodeParcels h0 h1 = .ok i →
    i.wf = true ∧ i.core = i ∧ encodeWord i = (if isLong h0 then h0 * 65536 + h1 else h0)

/-- Example words of the spec decode to the instructions they stand for (R153, R199, R220, R245, R270, R284, R320,
R339, R366, R391). The push16 word rests on an encoding that R366 marks as general knowledge, log 22. -/
def Obligations.example_words_decode : Prop :=
  decodeTableWord 32 0xC4410023 = some (.addu32 3 1 2) ∧ decodeTableWord 32 0xEC61FFFF = some (.ori32 3 1 0xFFFF) ∧
    decodeTableWord 32 0xC4614C43 = some (.lsrc32 3 1 3) ∧ decodeTableWord 16 0x3924 = some (.cmplti16 1 4) ∧
    decodeTableWord 16 0x1024 = some (.lrw16 1 1 4) ∧ decodeTableWord 32 0xC7E12843 = some (.bseti32 3 1 31) ∧
    decodeTableWord 32 0xE0000800 = some (.bsr32 0x800) ∧ decodeTableWord 32 0xD8612004 = some (.ld32w 3 1 4) ∧
    decodeTableWord 16 0x14D3 = some (.push16 1 3) ∧ decodeTableWord 32 0xC020642E = some (.mtcr32 0 14 1)

/-- A step runs the instruction that the bytes at the PC decode to (R73, R121). That the four bytes at the PC are two
little-endian halfword parcels, the first of them bits 31:16 of the word, is the spec's decision D12, log 8. -/
def Obligations.step_runs_decoded_instruction : Prop :=
  ∀ (s : State) (i : Instr), s.cfg.bigEndian = false → Undisturbed s → decodeBytes s.bytesAtPc = .ok i → i.wf = true →
    Fetchable s.tick s.pc → (i.size = 4 → Fetchable s.tick (s.pc + 2)) → step s = exec i s.tick

/-- A word that decodes to no instruction, and a fetch that is refused, take their exceptions (R78, R89, R121, R143,
R413, R414, R427). That every word matching no instruction is illegal is the spec's decision D20 with its items U15
and U17, log 23: no proof about hardware may rely on the trap there. That the first of two parcels is a halfword in the
data byte order is its decision D12, log 8. Which slave answers at an address is the platform's part, the spec's open
point OPEN-1, and that nothing at an address answers ERROR is log 5, DESIGN CHOICE; that EPC of a failed second parcel is
the instruction's address is the spec's own inference in R427 (a), log 23. -/
def Obligations.illegal_word_traps : Prop :=
  ∀ (s : State) (w : Word), Undisturbed s →
    (∀ e, s.tick.fetchInstr = .ok (.error e) → VectorReads s.tick (syncVector s 4) s.pc w →
      StepsTo s (fun t => Entered s.tick t (syncVector s 4) s.pc w)) ∧
    ((s.cfg.bigEndian = false ∨ s.cfg.beV2 = true) → VectorReads s.tick (syncVector s 2) s.pc w →
      (AccessRefused s.tick s.pc .half .fetch false ∨
        Fetchable s.tick s.pc ∧ isLong (s.mem.load s.cfg.bigEndian s.pc .half).toNat = true ∧
          AccessRefused s.tick (s.pc + 2) .half .fetch false) →
      StepsTo s (fun t => Entered s.tick t (syncVector s 2) s.pc w))

/-- The additions without carry write the sum modulo 2^32 and nothing else (R151, R152, R153, R156, R157, R158, R159,
R160, R171, R172). -/
def Obligations.add_results : Prop :=
  ∀ (s : State) (rz rx ry n : Nat), s.hasReg rz = true → s.hasReg rx = true → s.hasReg ry = true →
    Completes (.addu16 rz rx) s (Writes s · rz (s.reg rz + s.reg rx) 2) ∧
    Completes (.addu16r rz rx ry) s (Writes s · rz (s.reg rx + s.reg ry) 2) ∧
    Completes (.addu32 rz rx ry) s (Writes s · rz (s.reg rx + s.reg ry) 4) ∧
    Completes (.addi16 rz n) s (Writes s · rz (s.reg rz + BitVec.ofNat 32 (n + 1)) 2) ∧
    Completes (.addi16r rz rx n) s (Writes s · rz (s.reg rx + BitVec.ofNat 32 (n + 1)) 2) ∧
    Completes (.addi32 rz rx n) s (Writes s · rz (s.reg rx + BitVec.ofNat 32 (n + 1)) 4) ∧
    Completes (.addi16sp rz n) s (Writes s · rz (s.sp + BitVec.ofNat 32 (4 * n)) 2) ∧
    Completes (.addi16spsp n) s (Writes s · 14 (s.sp + BitVec.ofNat 32 (4 * n)) 2) ∧
    Completes (.ixh32 rz rx ry) s (Writes s · rz (s.reg rx + 2 * s.reg ry) 4) ∧
    Completes (.ixw32 rz rx ry) s (Writes s · rz (s.reg rx + 4 * s.reg ry) 4)

/-- The subtractions without borrow write the difference modulo 2^32 and nothing else (R161, R162, R163, R166, R167,
R168, R169, R170). -/
def Obligations.subtract_results : Prop :=
  ∀ (s : State) (rz rx ry n : Nat), s.hasReg rz = true → s.hasReg rx = true → s.hasReg ry = true →
    Completes (.subu16 rz rx) s (Writes s · rz (s.reg rz - s.reg rx) 2) ∧
    Completes (.subu16r rz rx ry) s (Writes s · rz (s.reg rx - s.reg ry) 2) ∧
    Completes (.subu32 rz rx ry) s (Writes s · rz (s.reg rx - s.reg ry) 4) ∧
    Completes (.rsub32 rz rx ry) s (Writes s · rz (s.reg ry - s.reg rx) 4) ∧
    Completes (.subi16 rz n) s (Writes s · rz (s.reg rz - BitVec.ofNat 32 (n + 1)) 2) ∧
    Completes (.subi16r rz rx n) s (Writes s · rz (s.reg rx - BitVec.ofNat 32 (n + 1)) 2) ∧
    Completes (.subi32 rz rx n) s (Writes s · rz (s.reg rx - BitVec.ofNat 32 (n + 1)) 4) ∧
    Completes (.subi16spsp n) s (Writes s · 14 (s.sp - BitVec.ofNat 32 (4 * n)) 2)

/-- ADDC and SUBC compute with the carry and set C to the carry out or the absence of a borrow (R154, R155, R164,
R165). -/
def Obligations.carry_results : Prop :=
  ∀ (s : State) (rz rx ry : Nat), s.hasReg rz = true → s.hasReg rx = true → s.hasReg ry = true →
    (∃ v c, Completes (.addc16 rz rx) s (WritesC s · rz v c 2) ∧
      v.toNat + 2 ^ 32 * c.toNat = (s.reg rz).toNat + (s.reg rx).toNat + s.psrC.toNat) ∧
    (∃ v c, Completes (.addc32 rz rx ry) s (WritesC s · rz v c 4) ∧
      v.toNat + 2 ^ 32 * c.toNat = (s.reg rx).toNat + (s.reg ry).toNat + s.psrC.toNat) ∧
    (∃ v c, Completes (.subc16 rz rx) s (WritesC s · rz v c 2) ∧
      (v.toNat : Int) - 2 ^ 32 * (1 - c.toNat) = (s.reg rz).toNat - (s.reg rx).toNat - (1 - s.psrC.toNat)) ∧
    (∃ v c, Completes (.subc32 rz rx ry) s (WritesC s · rz v c 4) ∧
      (v.toNat : Int) - 2 ^ 32 * (1 - c.toNat) = (s.reg rx).toNat - (s.reg ry).toNat - (1 - s.psrC.toNat))

/-- INCF, INCT, DECF, DECT, MOVF and MOVT write only when C has the value they test (R173, R174, R175, R176, R263,
R264). -/
def Obligations.conditional_results : Prop :=
  ∀ (s : State) (rz rx n : Nat), s.hasReg rz = true → s.hasReg rx = true →
    Completes (.incf32 rz rx n) s (fun t => if s.psrC = false then Writes s t rz (s.reg rx + BitVec.ofNat 32 n) 4 else GoesTo s t (s.pc + 4)) ∧
    Completes (.inct32 rz rx n) s (fun t => if s.psrC = true then Writes s t rz (s.reg rx + BitVec.ofNat 32 n) 4 else GoesTo s t (s.pc + 4)) ∧
    Completes (.decf32 rz rx n) s (fun t => if s.psrC = false then Writes s t rz (s.reg rx - BitVec.ofNat 32 n) 4 else GoesTo s t (s.pc + 4)) ∧
    Completes (.dect32 rz rx n) s (fun t => if s.psrC = true then Writes s t rz (s.reg rx - BitVec.ofNat 32 n) 4 else GoesTo s t (s.pc + 4)) ∧
    Completes (.movf32 rz rx) s (fun t => if s.psrC = false then Writes s t rz (s.reg rx) 4 else GoesTo s t (s.pc + 4)) ∧
    Completes (.movt32 rz rx) s (fun t => if s.psrC = true then Writes s t rz (s.reg rx) 4 else GoesTo s t (s.pc + 4))

/-- The logic instructions combine their operands bit by bit and change nothing else (R191, R192, R193, R194, R196,
R198, R199, R201, R202, R204, R205, R206). -/
def Obligations.logic_results : Prop :=
  ∀ (s : State) (rz rx ry n : Nat), s.hasReg rz = true → s.hasReg rx = true → s.hasReg ry = true →
    Completes (.and16 rz rx) s (Writes s · rz (s.reg rz &&& s.reg rx) 2) ∧
    Completes (.and32 rz rx ry) s (Writes s · rz (s.reg rx &&& s.reg ry) 4) ∧
    Completes (.andi32 rz rx n) s (Writes s · rz (s.reg rx &&& BitVec.ofNat 32 n) 4) ∧
    Completes (.andn16 rz rx) s (Writes s · rz (s.reg rz &&& ~~~(s.reg rx)) 2) ∧
    Completes (.andn32 rz rx ry) s (Writes s · rz (s.reg rx &&& ~~~(s.reg ry)) 4) ∧
    Completes (.andni32 rz rx n) s (Writes s · rz (s.reg rx &&& ~~~(BitVec.ofNat 32 n)) 4) ∧
    Completes (.or16 rz rx) s (Writes s · rz (s.reg rz ||| s.reg rx) 2) ∧
    Completes (.or32 rz rx ry) s (Writes s · rz (s.reg rx ||| s.reg ry) 4) ∧
    Completes (.ori32 rz rx n) s (Writes s · rz (s.reg rx ||| BitVec.ofNat 32 n) 4) ∧
    Completes (.xor16 rz rx) s (Writes s · rz (s.reg rz ^^^ s.reg rx) 2) ∧
    Completes (.xor32 rz rx ry) s (Writes s · rz (s.reg rx ^^^ s.reg ry) 4) ∧
    Completes (.xori32 rz rx n) s (Writes s · rz (s.reg rx ^^^ BitVec.ofNat 32 n) 4) ∧
    Completes (.nor16 rz rx) s (Writes s · rz (~~~(s.reg rz ||| s.reg rx)) 2) ∧
    Completes (.nor32 rz rx ry) s (Writes s · rz (~~~(s.reg rx ||| s.reg ry)) 4) ∧
    Completes (.not16 rz) s (Writes s · rz (~~~(s.reg rz)) 2) ∧
    Completes (.not32 rz rx) s (Writes s · rz (~~~(s.reg rx)) 4)

/-- The register-count shifts use the low six bits of the count (R211, R212, R216, R217, R221, R222, R226, R227). -/
def Obligations.register_shift_results : Prop :=
  ∀ (s : State) (rz rx ry : Nat), s.hasReg rz = true → s.hasReg rx = true → s.hasReg ry = true →
    (∃ v, Completes (.lsl16 rz rx) s (Writes s · rz v 2) ∧ v.toNat = if 31 < ((s.reg rx).toNat % 64) then 0 else (s.reg rz).toNat * 2 ^ (((s.reg rx).toNat % 64)) % 2 ^ 32) ∧
    (∃ v, Completes (.lsl32 rz rx ry) s (Writes s · rz v 4) ∧ v.toNat = if 31 < ((s.reg ry).toNat % 64) then 0 else (s.reg rx).toNat * 2 ^ (((s.reg ry).toNat % 64)) % 2 ^ 32) ∧
    (∃ v, Completes (.lsr16 rz rx) s (Writes s · rz v 2) ∧ v.toNat = if 31 < ((s.reg rx).toNat % 64) then 0 else (s.reg rz).toNat / 2 ^ (((s.reg rx).toNat % 64))) ∧
    (∃ v, Completes (.lsr32 rz rx ry) s (Writes s · rz v 4) ∧ v.toNat = if 31 < ((s.reg ry).toNat % 64) then 0 else (s.reg rx).toNat / 2 ^ (((s.reg ry).toNat % 64))) ∧
    (∃ v, Completes (.asr16 rz rx) s (Writes s · rz v 2) ∧ v.toInt = (s.reg rz).toInt / 2 ^ (((s.reg rx).toNat % 64))) ∧
    (∃ v, Completes (.asr32 rz rx ry) s (Writes s · rz v 4) ∧ v.toInt = (s.reg rx).toInt / 2 ^ (((s.reg ry).toNat % 64))) ∧
    (∃ v, Completes (.rotl16 rz rx) s (Writes s · rz v 2) ∧ ∀ k < 32, v.getLsbD ((k + ((s.reg rx).toNat % 64)) % 32) = (decide (((s.reg rx).toNat % 64) ≤ 31) && (s.reg rz).getLsbD k)) ∧
    (∃ v, Completes (.rotl32 rz rx ry) s (Writes s · rz v 4) ∧ ∀ k < 32, v.getLsbD ((k + ((s.reg ry).toNat % 64)) % 32) = (decide (((s.reg ry).toNat % 64) ≤ 31) && (s.reg rx).getLsbD k))

/-- The immediate shifts and the immediate rotate (R213, R214, R218, R219, R223, R224, R228). -/
def Obligations.immediate_shift_results : Prop :=
  ∀ (s : State) (rz rx n : Nat), s.hasReg rz = true → s.hasReg rx = true → n < 32 →
    (∃ v, Completes (.lsli16 rz rx n) s (Writes s · rz v 2) ∧ v.toNat = (s.reg rx).toNat * 2 ^ n % 2 ^ 32) ∧
    (∃ v, Completes (.lsli32 rz rx n) s (Writes s · rz v 4) ∧ v.toNat = (s.reg rx).toNat * 2 ^ n % 2 ^ 32) ∧
    (∃ v, Completes (.lsri16 rz rx n) s (Writes s · rz v 2) ∧ v.toNat = (s.reg rx).toNat / 2 ^ n) ∧
    (∃ v, Completes (.lsri32 rz rx n) s (Writes s · rz v 4) ∧ v.toNat = (s.reg rx).toNat / 2 ^ n) ∧
    (∃ v, Completes (.asri16 rz rx n) s (Writes s · rz v 2) ∧ v.toInt = (s.reg rx).toInt / 2 ^ n) ∧
    (∃ v, Completes (.asri32 rz rx n) s (Writes s · rz v 4) ∧ v.toInt = (s.reg rx).toInt / 2 ^ n) ∧
    (∃ v, Completes (.rotli32 rz rx n) s (Writes s · rz v 4) ∧ ∀ k < 32, v.getLsbD ((k + n) % 32) = (s.reg rx).getLsbD k)

/-- LSLC, LSRC, ASRC and XSR move the last bit shifted out into C (R215, R220, R225, R229). -/
def Obligations.shift_into_carry_results : Prop :=
  ∀ (s : State) (rz rx n : Nat), s.hasReg rz = true → s.hasReg rx = true → n < 32 →
    (∃ v c, Completes (.lslc32 rz rx n) s (WritesC s · rz v c 4) ∧
      v.toNat = (s.reg rx).toNat * 2 ^ (n + 1) % 2 ^ 32 ∧ c = (s.reg rx).getLsbD (31 - n)) ∧
    (∃ v c, Completes (.lsrc32 rz rx n) s (WritesC s · rz v c 4) ∧
      v.toNat = (s.reg rx).toNat / 2 ^ (n + 1) ∧ c = (s.reg rx).getLsbD n) ∧
    (∃ v c, Completes (.asrc32 rz rx n) s (WritesC s · rz v c 4) ∧
      v.toInt = (s.reg rx).toInt / 2 ^ (n + 1) ∧ c = (s.reg rx).getLsbD n) ∧
    (∃ v c, Completes (.xsr32 rz rx n) s (WritesC s · rz v c 4) ∧
      c = (s.reg rx).getLsbD n ∧ ∀ k < 32, v.getLsbD k =
        if (k + n + 2) % 33 = 0 then s.psrC else (s.reg rx).getLsbD ((k + n + 2) % 33 - 1))

/-- The compare and test instructions set C to the result of their test and change nothing else (R241, R242, R243,
R244, R245, R246, R247, R248, R249, R250, R251). -/
def Obligations.compare_results : Prop :=
  ∀ (s : State) (rx ry n : Nat), s.hasReg rx = true → s.hasReg ry = true → n < 65536 →
    Completes (.cmphs16 rx ry) s (SetsC s · (decide ((s.reg ry).toNat ≤ (s.reg rx).toNat)) 2) ∧
    Completes (.cmphsi16 rx n) s (SetsC s · (decide (n + 1 ≤ (s.reg rx).toNat)) 2) ∧
    Completes (.cmphsi32 rx n) s (SetsC s · (decide (n + 1 ≤ (s.reg rx).toNat)) 4) ∧
    Completes (.cmplt16 rx ry) s (SetsC s · (decide ((s.reg rx).toInt < (s.reg ry).toInt)) 2) ∧
    Completes (.cmplti16 rx n) s (SetsC s · (decide ((s.reg rx).toInt < (n : Int) + 1)) 2) ∧
    Completes (.cmplti32 rx n) s (SetsC s · (decide ((s.reg rx).toInt < (n : Int) + 1)) 4) ∧
    Completes (.cmpne16 rx ry) s (SetsC s · (decide (s.reg rx ≠ s.reg ry)) 2) ∧
    Completes (.cmpnei16 rx n) s (SetsC s · (decide ((s.reg rx).toNat ≠ n)) 2) ∧
    Completes (.cmpnei32 rx n) s (SetsC s · (decide ((s.reg rx).toNat ≠ n)) 4) ∧
    Completes (.tst16 rx ry) s (SetsC s · (decide (s.reg rx &&& s.reg ry ≠ 0)) 2) ∧
    Completes (.tstnbz16 rx) s (SetsC s · (decide (∀ k < 4, (s.reg rx).toNat / 256 ^ k % 256 ≠ 0)) 2)

/-- The moves, the immediates and GRS write their value and nothing else (R261, R262, R265, R266, R267, R268, R269,
R272). -/
def Obligations.transfer_results : Prop :=
  ∀ (s : State) (rz rx n : Nat), s.hasReg rz = true → s.hasReg rx = true →
    Completes (.mov16 rz rx) s (Writes s · rz (s.reg rx) 2) ∧
    Completes (.mov32 rz rx) s (Writes s · rz (s.reg rx) 4) ∧
    Completes (.movi16 rz n) s (Writes s · rz (BitVec.ofNat 32 n) 2) ∧
    Completes (.movi32 rz n) s (Writes s · rz (BitVec.ofNat 32 n) 4) ∧
    Completes (.movih32 rz n) s (Writes s · rz (BitVec.ofNat 32 (n * 65536)) 4) ∧
    Completes (.mvc32 rz) s (Writes s · rz (BitVec.ofNat 32 s.psrC.toNat) 4) ∧
    Completes (.mvcv16 rz) s (Writes s · rz (BitVec.ofNat 32 (1 - s.psrC.toNat)) 2) ∧
    (n < 2 ^ 18 → Completes (.grs32 rz n) s (Writes s · rz (s.pc + BitVec.ofInt 32 (2 * signedField 18 n)) 4))

/-- The bit instructions clear, set, test or generate the bits they name (R281, R282, R283, R284, R285, R286, R287,
R288). btsti16 exists by the spec's decision D22, logs 22 and 52. -/
def Obligations.bit_results : Prop :=
  ∀ (s : State) (rz rx n : Nat), s.hasReg rz = true → s.hasReg rx = true → n < 32 →
    (∃ v, Completes (.bclri16 rz n) s (Writes s · rz v 2) ∧ ∀ k < 32, v.getLsbD k = ((s.reg rz).getLsbD k && decide (k ≠ n))) ∧
    (∃ v, Completes (.bclri32 rz rx n) s (Writes s · rz v 4) ∧ ∀ k < 32, v.getLsbD k = ((s.reg rx).getLsbD k && decide (k ≠ n))) ∧
    (∃ v, Completes (.bseti16 rz n) s (Writes s · rz v 2) ∧ ∀ k < 32, v.getLsbD k = ((s.reg rz).getLsbD k || decide (k = n))) ∧
    (∃ v, Completes (.bseti32 rz rx n) s (Writes s · rz v 4) ∧ ∀ k < 32, v.getLsbD k = ((s.reg rx).getLsbD k || decide (k = n))) ∧
    Completes (.btsti16 rx n) s (SetsC s · ((s.reg rx).getLsbD n) 2) ∧
    Completes (.btsti32 rx n) s (SetsC s · ((s.reg rx).getLsbD n) 4) ∧
    (∃ v, Completes (.bgeni32 rz n) s (Writes s · rz v 4) ∧ ∀ k < 32, v.getLsbD k = decide (k = n)) ∧
    (16 ≤ n → (∃ v, Completes (.bmaski32 rz n) s (Writes s · rz v 4) ∧ ∀ k < 32, v.getLsbD k = decide (k ≤ n)))

/-- The extractions, extensions, byte reversals and leading-bit counts give what the spec says (R289, R290, R291,
R292, R293, R294, R295, R296, R297, R298, R301, R302). -/
def Obligations.extract_results : Prop :=
  ∀ (s : State) (rz rx : Nat), s.hasReg rz = true → s.hasReg rx = true →
    (∃ v c, Completes (.xtrb0 rz rx) s (WritesC s · rz v c 4) ∧
      v.toNat = (s.reg rx).toNat / 2 ^ 24 % 256 ∧ (c = true ↔ v ≠ 0)) ∧
    (∃ v c, Completes (.xtrb1 rz rx) s (WritesC s · rz v c 4) ∧
      v.toNat = (s.reg rx).toNat / 2 ^ 16 % 256 ∧ (c = true ↔ v ≠ 0)) ∧
    (∃ v c, Completes (.xtrb2 rz rx) s (WritesC s · rz v c 4) ∧
      v.toNat = (s.reg rx).toNat / 2 ^ 8 % 256 ∧ (c = true ↔ v ≠ 0)) ∧
    (∃ v c, Completes (.xtrb3 rz rx) s (WritesC s · rz v c 4) ∧
      v.toNat = (s.reg rx).toNat / 2 ^ 0 % 256 ∧ (c = true ↔ v ≠ 0)) ∧
    (∃ v, Completes (.zextb16 rz rx) s (Writes s · rz v 2) ∧ v.toNat = (s.reg rx).toNat % 256) ∧
    (∃ v, Completes (.zexth16 rz rx) s (Writes s · rz v 2) ∧ v.toNat = (s.reg rx).toNat % 65536) ∧
    (∃ v, Completes (.sextb16 rz rx) s (Writes s · rz v 2) ∧ v.toInt = signedField 8 ((s.reg rx).toNat % 256)) ∧
    (∃ v, Completes (.sexth16 rz rx) s (Writes s · rz v 2) ∧ v.toInt = signedField 16 ((s.reg rx).toNat % 65536)) ∧
    (∃ n ≤ 32, Completes (.ff0 rz rx) s (Writes s · rz (BitVec.ofNat 32 n) 4) ∧
      (∀ k < n, (s.reg rx).getLsbD (31 - k) = true) ∧ (n < 32 → (s.reg rx).getLsbD (31 - n) = false)) ∧
    (∃ n ≤ 32, Completes (.ff1 rz rx) s (Writes s · rz (BitVec.ofNat 32 n) 4) ∧
      (∀ k < n, (s.reg rx).getLsbD (31 - k) = false) ∧ (n < 32 → (s.reg rx).getLsbD (31 - n) = true)) ∧
    (∃ v, Completes (.revb16 rz rx) s (Writes s · rz v 2) ∧ 
      ∀ k < 32, v.getLsbD k = (s.reg rx).getLsbD (24 - k / 8 * 8 + k % 8)) ∧
    (∃ v, Completes (.revh16 rz rx) s (Writes s · rz v 2) ∧ 
      ∀ k < 32, v.getLsbD k = (s.reg rx).getLsbD (k / 16 * 16 + (8 - k % 16 / 8 * 8) + k % 8))

/-- MULT writes the low 32 bits of the product (R299, R300). -/
def Obligations.multiply_results : Prop :=
  ∀ (s : State) (rz rx ry : Nat), s.hasReg rz = true → s.hasReg rx = true → s.hasReg ry = true →
    (∃ v, Completes (.mult16 rz rx) s (Writes s · rz v 2) ∧ v.toNat = (s.reg rx).toNat * (s.reg rz).toNat % 2 ^ 32) ∧
    (∃ v, Completes (.mult32 rz rx ry) s (Writes s · rz v 4) ∧ v.toNat = (s.reg rx).toNat * (s.reg ry).toNat % 2 ^ 32)

/-- The relative branches go to their own address plus twice the signed offset (R311, R312, R313, R314, R315, R317).
-/
def Obligations.branch_results : Prop :=
  ∀ (s : State) (n : Nat), s.pc.getLsbD 0 = false →
    (n < 2 ^ 10 → Completes (.br16 n) s (GoesTo s · (s.pc + BitVec.ofInt 32 (2 * signedField 10 n))) ∧
      Completes (.bt16 n) s (GoesTo s · (if s.psrC = true then s.pc + BitVec.ofInt 32 (2 * signedField 10 n) else s.pc + 2)) ∧
      Completes (.bf16 n) s (GoesTo s · (if s.psrC = false then s.pc + BitVec.ofInt 32 (2 * signedField 10 n) else s.pc + 2))) ∧
    (n < 2 ^ 16 → Completes (.br32 n) s (GoesTo s · (s.pc + BitVec.ofInt 32 (2 * signedField 16 n))) ∧
      Completes (.bt32 n) s (GoesTo s · (if s.psrC = true then s.pc + BitVec.ofInt 32 (2 * signedField 16 n) else s.pc + 4)) ∧
      Completes (.bf32 n) s (GoesTo s · (if s.psrC = false then s.pc + BitVec.ofInt 32 (2 * signedField 16 n) else s.pc + 4)))

/-- JMP, RTS and JMPIX go to the register address with bit 0 dropped (R316, R318, R321). That JMPIX drops bit 0 of the sum
is the spec's own inference in R318, log 30. -/
def Obligations.jump_results : Prop :=
  ∀ (s : State) (rx n : Nat), s.hasReg rx = true → n < 4 →
    Completes (.jmp16 rx) s (GoesTo s · (s.reg rx &&& 0xFFFFFFFE)) ∧
    Completes .rts16 s (GoesTo s · (s.reg 15 &&& 0xFFFFFFFE)) ∧
    (s.cfg.bct = true → Completes (.jmpix16 rx n) s
      (GoesTo s · ((s.reg 30 + BitVec.ofNat 32 ((s.reg rx).toNat % 256 * (16 + 8 * n))) &&& 0xFFFFFFFE)))

/-- JSR and BSR put the next instruction's address in R15 and go to their target (R319, R320). -/
def Obligations.call_results : Prop :=
  ∀ (s : State) (rx n : Nat), s.hasReg rx = true →
    Completes (.jsr16 rx) s (Links s · (s.pc + 2) (s.reg rx &&& 0xFFFFFFFE)) ∧
    (n < 2 ^ 26 → s.pc.getLsbD 0 = false →
      Completes (.bsr32 n) s (Links s · (s.pc + 4) (s.pc + BitVec.ofInt 32 (2 * signedField 26 n))))

/-- The loads write the extended memory value to their register and nothing else (R331, R332, R333, R334, R335, R336,
R337, R338, R339). -/
def Obligations.load_results : Prop :=
  ∀ (s : State) (rz rx off : Nat), s.hasReg rz = true → s.hasReg rx = true →
    (Allowed s (s.baseOffset rx off 0) .byte .read (rx == 14) →
      Completes (.ld16b rz rx off) s (Writes s · rz (s.mem.load s.cfg.bigEndian (s.baseOffset rx off 0) .byte) 2)) ∧
    (Allowed s (s.baseOffset rx off 0) .byte .read (rx == 14) →
      Completes (.ld32b rz rx off) s (Writes s · rz (s.mem.load s.cfg.bigEndian (s.baseOffset rx off 0) .byte) 4)) ∧
    (Allowed s (s.baseOffset rx off 0) .byte .read (rx == 14) →
      Completes (.ld32bs rz rx off) s (Writes s · rz ((s.mem.byteAt (s.baseOffset rx off 0)).signExtend 32) 4)) ∧
    (Allowed s (s.baseOffset rx off 1) .half .read (rx == 14) →
      Completes (.ld16h rz rx off) s (Writes s · rz (s.mem.load s.cfg.bigEndian (s.baseOffset rx off 1) .half) 2)) ∧
    (Allowed s (s.baseOffset rx off 1) .half .read (rx == 14) →
      Completes (.ld32h rz rx off) s (Writes s · rz (s.mem.load s.cfg.bigEndian (s.baseOffset rx off 1) .half) 4)) ∧
    (Allowed s (s.baseOffset rx off 1) .half .read (rx == 14) →
      Completes (.ld32hs rz rx off) s (Writes s · rz (((s.mem.load s.cfg.bigEndian (s.baseOffset rx off 1) .half).setWidth 16).signExtend 32) 4)) ∧
    (Allowed s (s.baseOffset rx off 2) .word .read (rx == 14) →
      Completes (.ld16w rz rx off) s (Writes s · rz (s.mem.load s.cfg.bigEndian (s.baseOffset rx off 2) .word) 2)) ∧
    (Allowed s (s.baseOffset rx off 2) .word .read (rx == 14) →
      Completes (.ld32w rz rx off) s (Writes s · rz (s.mem.load s.cfg.bigEndian (s.baseOffset rx off 2) .word) 4)) ∧
    (Allowed s (s.baseOffset 14 off 2) .word .read true →
      Completes (.ld16wsp rz off) s (Writes s · rz (s.mem.load s.cfg.bigEndian (s.baseOffset 14 off 2) .word) 2))

/-- LRW loads the word at its own address plus the literal offset, word aligned (R270, R271). -/
def Obligations.literal_load_results : Prop :=
  ∀ (s : State) (rz imm7 off : Nat), s.hasReg rz = true → imm7 < 128 → off < 65536 →
    (∀ imm1 a, a = (s.pc + BitVec.ofNat 32 (4 * (if imm1 = 1 then imm7 else 255 - imm7))) &&& 0xFFFFFFFC →
      Allowed s a .word .read false →
      Completes (.lrw16 rz imm1 imm7) s (Writes s · rz (s.mem.load s.cfg.bigEndian a .word) 2)) ∧
    (∀ a, a = (s.pc + BitVec.ofNat 32 (4 * off)) &&& 0xFFFFFFFC → Allowed s a .word .read false →
      Completes (.lrw32 rz off) s (Writes s · rz (s.mem.load s.cfg.bigEndian a .word) 4))

/-- The stores write the low bytes of their register to memory and nothing else (R340, R341, R342, R343, R344, R345,
R346). -/
def Obligations.store_results : Prop :=
  ∀ (s : State) (rz rx off : Nat), s.hasReg rz = true → s.hasReg rx = true →
    (Allowed s (s.baseOffset rx off 0) .byte .write (rx == 14) →
      Completes (.st16b rz rx off) s (Stores s · (s.baseOffset rx off 0) .byte (s.reg rz) 2)) ∧
    (Allowed s (s.baseOffset rx off 0) .byte .write (rx == 14) →
      Completes (.st32b rz rx off) s (Stores s · (s.baseOffset rx off 0) .byte (s.reg rz) 4)) ∧
    (Allowed s (s.baseOffset rx off 1) .half .write (rx == 14) →
      Completes (.st16h rz rx off) s (Stores s · (s.baseOffset rx off 1) .half (s.reg rz) 2)) ∧
    (Allowed s (s.baseOffset rx off 1) .half .write (rx == 14) →
      Completes (.st32h rz rx off) s (Stores s · (s.baseOffset rx off 1) .half (s.reg rz) 4)) ∧
    (Allowed s (s.baseOffset rx off 2) .word .write (rx == 14) →
      Completes (.st16w rz rx off) s (Stores s · (s.baseOffset rx off 2) .word (s.reg rz) 2)) ∧
    (Allowed s (s.baseOffset rx off 2) .word .write (rx == 14) →
      Completes (.st32w rz rx off) s (Stores s · (s.baseOffset rx off 2) .word (s.reg rz) 4)) ∧
    (Allowed s (s.baseOffset 14 off 2) .word .write true →
      Completes (.st16wsp rz off) s (Stores s · (s.baseOffset 14 off 2) .word (s.reg rz) 2))

/-- A wide access reads its bytes in the core's order and reads back what was stored (R71). -/
def Obligations.memory_byte_order : Prop :=
  ∀ (m : Memory) (a v x : Word) (w : Width) (be : Bool),
    (∀ k < w.bytes, (m.load be a w).extractLsb' (8 * k) 8 =
      m.byteAt (a + BitVec.ofNat 32 (if be then w.bytes - 1 - k else k))) ∧
    (m.load be a w).toNat < 2 ^ (8 * w.bytes) ∧
    (m.store be a v w).load be a w = v &&& lowMask (8 * w.bytes) ∧
    (w.covers a x = false → (m.store be a v w).byteAt x = m.byteAt x)

/-- With PSR.MM = 0 a misaligned load or store takes the misaligned access exception (R75, R412). -/
def Obligations.misaligned_access_traps : Prop :=
  ∀ (s : State) (i : Instr) (a : Word) (w : Width) (k : AccessKind) (sp : Bool) (rz : Nat), s.psrMM = false →
    (dataAccess s i = some (a, w, k, sp) → w.aligned a = false → Traps i s 1) ∧
    (s.cfg.bct = true → s.psrBM = true → s.hasReg rz = true →
      (Width.half.aligned s.bsp = false → s.bsp.toNat + 2 ≤ s.top.toNat → Traps (.bpush16h rz) s 1) ∧
      (Width.word.aligned s.bsp = false → s.bsp.toNat + 4 ≤ s.top.toNat → Traps (.bpush16w rz) s 1) ∧
      (Width.half.aligned s.bsp = false → s.fpB.toNat + 2 ≤ s.bsp.toNat → Traps (.bpop16h rz) s 1) ∧
      (Width.word.aligned s.bsp = false → s.fpB.toNat + 4 ≤ s.bsp.toNat → Traps (.bpop16w rz) s 1))

/-- With PSR.MM = 1 and no hardware support a misaligned access is made at the address with its low bits cleared
(R77). -/
def Obligations.misaligned_access_aligned_down : Prop :=
  ∀ (s : State) (a v : Word) (sp : Bool), s.psrMM = true → s.cfg.unalignedHw = false →
    (Width.half.aligned a = false →
      s.readData a .half false sp = s.readData (a &&& 0xFFFFFFFE) .half false sp ∧
      s.writeData a .half false sp v = s.writeData (a &&& 0xFFFFFFFE) .half false sp v) ∧
    (Width.word.aligned a = false →
      s.readData a .word false sp = s.readData (a &&& 0xFFFFFFFC) .word false sp ∧
      s.writeData a .word false sp v = s.writeData (a &&& 0xFFFFFFFC) .word false sp v)

/-- With PSR.MM = 1 and hardware support a misaligned access reads or writes the bytes at its address (R76). That these
are the bytes from the address on in the order of R71 is the spec's own inference in R76, and the aligned words and parts
whose checks decide are log 17. -/
def Obligations.misaligned_access_split : Prop :=
  ∀ (s : State) (a v : Word) (w : Width) (sp : Bool), s.psrMM = true → s.cfg.unalignedHw = true →
    w.aligned a = false →
    (Allowed s (a &&& 0xFFFFFFFC) .word .read sp →
      (4 < a.toNat % 4 + w.bytes → Allowed s ((a &&& 0xFFFFFFFC) + 4) .word .read sp) →
      s.readData a w false sp = .ok (s.mem.load s.cfg.bigEndian a w)) ∧
    ((∀ p ∈ writeParts (a.toNat % 4) w, Allowed s (a + BitVec.ofNat 32 p.1) p.2 .write sp) →
      ∃ t, s.writeData a w false sp v = (t, none) ∧ Stored s t a w v ∧ SameRegs s t ∧ t.psr = s.psr ∧ SameSaved s t ∧
        SameControl s t)

/-- A load or store that the core's checks refuse or the platform answers with ERROR takes the access error exception
(R78, R89, R413). Which slave answers at an address is the platform's part, the spec's open point OPEN-1, log 5. -/
def Obligations.refused_access_traps : Prop :=
  ∀ (s : State) (i : Instr) (a : Word) (w : Width) (k : AccessKind) (sp : Bool),
    dataAccess s i = some (a, w, k, sp) → w.aligned a = true → AccessRefused s a w k sp → Traps i s 2

/-- With the stack guard on, an access from R14 outside the bounds takes the access error exception (R101, R102, R103,
R104). The comparison of the access's address without wrap-around and the interrupt bounds whatever SGP is are the
spec's decision D19, log 54. -/
def Obligations.stack_guard_traps : Prop :=
  ∀ (s : State) (i : Instr) (a lo hi : Word) (w : Width) (k : AccessKind),
    dataAccess s i = some (a, w, k, true) → w.aligned a = true → s.cfg.stackGuard = true → s.sgcrSge = true →
    ((s.bank14 = .interrupt ∧ lo = s.sgisbr ∧ hi = s.sgistr) ∨
      (s.bank14 ≠ .interrupt ∧ s.sgcrSgp = s.psrS ∧ lo = s.sgbr ∧ hi = s.sgtr)) →
    (a.toNat < lo.toNat ∨ hi.toNat < a.toNat + w.bytes) → Traps i s 2

/-- The tightly coupled range: what CER, CIR, CRCR and SECR read and become, and which accesses trap or are refused
(R86, R107, R109, R110, R111, R112, R458, R464). The trap in user mode is the spec's decision D13, the refusals its item
U11 and its open point OPEN-1; what follows a store to CIR on the fetch is its decision D15, log 14. That an
invalidation is complete when its store is, is log 13; the fields held and old are the model's own, log 12; which line
INV_ADDR names is log 11; the mask of SECR, and that the platform comes first at the unit's other words, are log 15. -/
def Obligations.tightly_coupled_registers : Prop :=
  ∀ (s : State) (i : Instr) (a v : Word) (w : Width) (k : AccessKind) (sp : Bool) (rz rx off : Nat),
    (dataAccess s i = some (a, w, k, sp) → w.aligned a = true → s.psrS = false →
      0xE0000000 ≤ a.toNat → a.toNat < 0xF0000000 → Traps i s 2) ∧
    (s.cfg.tcip = true → s.psrS = true → s.hasReg rz = true → s.hasReg rx = true → a = s.baseOffset rx off 2 →
      v = s.reg rz →
      (s.checkAccess a .word .read (rx == 14) = .ok () →
        (s.cfg.cache ≠ .absent → a = 0xE000F000 → Completes (.ld32w rz rx off) s (Writes s · rz s.cer 4)) ∧
        (s.cfg.cache ≠ .absent → a = 0xE000F004 → ∃ x, Completes (.ld32w rz rx off) s (Writes s · rz x 4) ∧
          (s.cirWritten = false → x = 0)) ∧
        (s.cfg.cache ≠ .absent → ∀ n : Fin 4, n.val < s.cfg.cacheRegions → a.toNat = 0xE000F008 + 4 * n.val →
          Completes (.ld32w rz rx off) s (Writes s · rz s.crcr[n] 4)) ∧
        (s.cfg.security = true → a = s.cfg.secrAddr → 0xE000EFA0 ≤ a.toNat → a.toNat < 0xE000EFB0 →
          a.toNat % 4 = 0 → Completes (.ld32w rz rx off) s (Writes s · rz s.secr 4)) ∧
        (s.cfg.security = true → a.toNat / 4 ≠ s.cfg.secrAddr.toNat / 4 → s.rangeAt a = none → 0xE000EFA0 ≤ a.toNat →
          a.toNat < 0xE000EFB0 → a.toNat % 4 = 0 → Completes (.ld32w rz rx off) s (Writes s · rz 0 4))) ∧
      (s.checkAccess a .word .write (rx == 14) = .ok () →
        (s.cfg.cache ≠ .absent → a = 0xE000F000 → exec (.st32w rz rx off) s =
          .next ({ s with cer := v &&& 3 }.advance 4)) ∧
        (s.cfg.cache ≠ .absent → a = 0xE000F004 → v.getLsbD 0 = true → ∃ u, exec (.st32w rz rx off) s =
            .next ({ s with cirWritten := true, held := [], old := [], stale := u }.advance 4) ∧
          ∀ x ∈ u, x.addr < 2 ^ 32 → x.stage ≠ .stored) ∧
        (s.cfg.cache ≠ .absent → a = 0xE000F004 → v.getLsbD 0 = false → v.getLsbD s.cfg.cirInvOneBit = true →
          ∃ held old u, exec (.st32w rz rx off) s =
              .next ({ s with cirWritten := true, held := held, old := old, stale := u }.advance 4) ∧
            ∀ k line, line = v.toNat / 2 ^ s.cfg.cirInvAddrLsb →
              (k / 2 ^ s.cfg.cirInvAddrLsb = line → inSpans held k = false ∧ inSpans old k = false ∧
                ∀ x ∈ u, x.addr = k → x.stage ≠ .stored) ∧
              (k / 2 ^ s.cfg.cirInvAddrLsb ≠ line → inSpans held k = inSpans s.held k ∧
                inSpans old k = inSpans s.old k ∧ ∀ x : Stale, x.addr = k → (x ∈ u ↔ x ∈ s.stale))) ∧
        (s.cfg.cache ≠ .absent → a = 0xE000F004 → v.getLsbD 0 = false → v.getLsbD s.cfg.cirInvOneBit = false →
          exec (.st32w rz rx off) s = .next ({ s with cirWritten := true }.advance 4)) ∧
        (s.cfg.cache ≠ .absent → ∀ n : Fin 4, n.val < s.cfg.cacheRegions → a.toNat = 0xE000F008 + 4 * n.val →
          exec (.st32w rz rx off) s = .next ({ s with crcr := s.crcr.set n (v &&& 0xFFFFFC3F) }.advance 4)) ∧
        (s.cfg.security = true → a = s.cfg.secrAddr → 0xE000EFA0 ≤ a.toNat → a.toNat < 0xE000EFB0 →
          a.toNat % 4 = 0 →
          exec (.st32w rz rx off) s = .next ({ s with secr := v &&& secrMask s.cfg }.advance 4)) ∧
        (s.cfg.security = true → a.toNat / 4 ≠ s.cfg.secrAddr.toNat / 4 → s.rangeAt a = none → 0xE000EFA0 ≤ a.toNat →
          a.toNat < 0xE000EFB0 → a.toNat % 4 = 0 → exec (.st32w rz rx off) s = .next (s.advance 4)))) ∧
    (s.cfg.tcip = true → s.psrS = true → dataAccess s i = some (a, w, k, sp) → w.aligned a = true →
      s.checkAccess a w k sp = .ok () →
      (s.cfg.cache ≠ .absent → 0xE000F000 ≤ a.toNat → a.toNat < 0xE0010000 →
        (w ≠ .word ∨ 0xE000F018 ≤ a.toNat ∨ 0xE000F008 + 4 * s.cfg.cacheRegions ≤ a.toNat) →
        exec i s = .refused .reservedTcipAccess) ∧
      (0xE0000000 ≤ a.toNat → a.toNat < 0xF0000000 → ¬ (0xE000EFA0 ≤ a.toNat ∧ a.toNat < 0xE000EFB0) →
        ¬ (0xE000F000 ≤ a.toNat ∧ a.toNat < 0xE0010000) → s.slave k false a = none →
        exec i s = .refused .tcipDevice))

/-- The highest enabled region holding the address decides an access, by its AP and NX (R94, R95, R96). -/
def Obligations.mpu_decides_access : Prop :=
  ∀ (s : State) (a : Word) (k : AccessKind), s.ccrMp = 1 → 0 < s.cfg.mpuRegions →
    (∀ i < s.cfg.mpuRegions, RegionOn (s.region i) → RegionLegal (s.region i)) →
    (∀ i, Controls s i a →
      (Permitted s.psrS (s.capr.toNat / 2 ^ (8 + 2 * i) % 4) (s.capr.getLsbD i) k → s.mpuCheck a k = .ok ()) ∧
      (¬ Permitted s.psrS (s.capr.toNat / 2 ^ (8 + 2 * i) % 4) (s.capr.getLsbD i) k →
        s.mpuCheck a k = .error (.raise .accessError))) ∧
    ((∀ i < s.cfg.mpuRegions, RegionOn (s.region i) → ¬ InRegion (s.region i) a) →
      s.mpuCheck a k = .error (.raise .accessError))

/-- PUSH, IPUSH, STM and STQ store their registers in ascending order and PUSH and IPUSH lower SP (R364, R365, R366,
R368). The layout of PUSH, the lowest register at the lowest address and R15 at the highest below the old SP, is the
spec's decision D25, log 28. -/
def Obligations.multi_store_results : Prop :=
  ∀ (s : State) (ry rx n r15 list1 : Nat), n < 32 → list1 ≤ 8 →
    ((∀ k ≤ n, s.hasReg (ry + k) = true) → s.hasReg rx = true → AllowedWords s (s.reg rx) (n + 1) .write (rx == 14) →
      Completes (.stm32 ry rx n) s (fun t =>
        StoredWords s t (s.reg rx) ((List.range (n + 1)).map (fun k => s.reg (ry + k))) ∧ SameRegs s t ∧
        t.psr = s.psr ∧ SameSaved s t ∧ SameControl s t ∧ t.pc = s.pc + 4)) ∧
    (s.hasReg rx = true → AllowedWords s (s.reg rx) 4 .write (rx == 14) →
      Completes (.stq32 rx) s (fun t =>
        StoredWords s t (s.reg rx) [s.reg 4, s.reg 5, s.reg 6, s.reg 7] ∧ SameRegs s t ∧
        t.psr = s.psr ∧ SameSaved s t ∧ SameControl s t ∧ t.pc = s.pc + 4)) ∧
    (∀ regs a, regs = (List.range list1).map (· + 4) ++ (if r15 = 1 then [15] else []) →
      a = s.sp - BitVec.ofNat 32 (4 * regs.length) → AllowedWords s a regs.length .write true →
      Completes (.push16 r15 list1) s (fun t =>
        StoredWords s t a (regs.map s.reg) ∧ t.reg 14 = a ∧ RegsExcept s t [14] ∧
        t.psr = s.psr ∧ SameSaved s t ∧ SameControl s t ∧ t.pc = s.pc + 2)) ∧
    (s.cfg.nest = true → AllowedWords s (s.sp - 24) 6 .write true →
      Completes .ipush16 s (fun t =>
        StoredWords s t (s.sp - 24) [s.reg 0, s.reg 1, s.reg 2, s.reg 3, s.reg 12, s.reg 13] ∧ t.reg 14 = s.sp - 24 ∧
        RegsExcept s t [14] ∧ t.psr = s.psr ∧ SameSaved s t ∧ SameControl s t ∧ t.pc = s.pc + 2))

/-- POP, IPOP, LDM and LDQ load their registers from ascending addresses; POP and IPOP raise SP, and POP returns
(R361, R362, R367, R369). The register order of POP, r4 at the lowest address and R15 at the highest, is the spec's
decision D25, log 28. -/
def Obligations.multi_load_results : Prop :=
  ∀ (s : State) (ry rx n r15 list1 : Nat), n < 32 → list1 ≤ 8 →
    ((∀ k ≤ n, s.hasReg (ry + k) = true) → s.hasReg rx = true → (rx < ry ∨ ry + n < rx) →
      AllowedWords s (s.reg rx) (n + 1) .read (rx == 14) →
      Completes (.ldm32 ry rx n) s (fun t =>
        (∀ k ≤ n, t.reg (ry + k) = s.mem.load s.cfg.bigEndian (s.reg rx + BitVec.ofNat 32 (4 * k)) .word) ∧
        RegsExcept s t ((List.range (n + 1)).map (ry + ·)) ∧
        t.psr = s.psr ∧ SameSaved s t ∧ SameControl s t ∧ SameMemory s t ∧ t.pc = s.pc + 4)) ∧
    (s.hasReg rx = true → (rx < 4 ∨ 7 < rx) → AllowedWords s (s.reg rx) 4 .read (rx == 14) →
      Completes (.ldq32 rx) s (fun t =>
        (∀ k < 4, t.reg (4 + k) = s.mem.load s.cfg.bigEndian (s.reg rx + BitVec.ofNat 32 (4 * k)) .word) ∧
        RegsExcept s t [4, 5, 6, 7] ∧
        t.psr = s.psr ∧ SameSaved s t ∧ SameControl s t ∧ SameMemory s t ∧ t.pc = s.pc + 4)) ∧
    (∀ regs, regs = (List.range list1).map (· + 4) ++ (if r15 = 1 then [15] else []) →
      AllowedWords s s.sp regs.length .read true →
      Completes (.pop16 r15 list1) s (fun t =>
        (∀ k (h : k < regs.length),
          t.reg regs[k] = s.mem.load s.cfg.bigEndian (s.sp + BitVec.ofNat 32 (4 * k)) .word) ∧
        t.reg 14 = s.sp + BitVec.ofNat 32 (4 * regs.length) ∧ RegsExcept s t (14 :: regs) ∧
        t.psr = s.psr ∧ SameSaved s t ∧ SameControl s t ∧ SameMemory s t ∧ t.pc = t.reg 15 &&& 0xFFFFFFFE)) ∧
    (s.cfg.nest = true → AllowedWords s s.sp 6 .read true →
      Completes .ipop16 s (fun t =>
        (∀ k (h : k < 6), t.reg ([0, 1, 2, 3, 12, 13][k]) =
          s.mem.load s.cfg.bigEndian (s.sp + BitVec.ofNat 32 (4 * k)) .word) ∧
        t.reg 14 = s.sp + 24 ∧ RegsExcept s t [0, 1, 2, 3, 12, 13, 14] ∧
        t.psr = s.psr ∧ SameSaved s t ∧ SameControl s t ∧ SameMemory s t ∧ t.pc = s.pc + 2))

/-- NIE pushes EPC and EPSR and enables interrupts, NIR pops EPSR and EPC and returns through them (R43, R370, R371).
That EPSR keeps the implemented bits of the word popped is the spec's decision D5, log 44. -/
def Obligations.nest_results : Prop :=
  ∀ s : State, s.cfg.nest = true → s.psrS = true →
    (AllowedWords s (s.sp - 8) 2 .write true →
      Completes .nie16 s (fun t =>
        StoredWords s t (s.sp - 8) [s.epsr, s.epc] ∧ t.reg 14 = s.sp - 8 ∧ RegsExcept s t [14] ∧ t.psrEE = true ∧
        t.psrIE = true ∧ (∀ k, k ≠ 6 → k ≠ 8 → t.psr.getLsbD k = s.psr.getLsbD k) ∧ SameSaved s t ∧ SameControl s t ∧
        t.pc = s.pc + 2)) ∧
    (AllowedWords s s.sp 2 .read true →
      Completes .nir16 s (fun t =>
        t.epsr = s.mem.load s.cfg.bigEndian s.sp .word &&& psrMask s.cfg ∧
        t.epc = s.mem.load s.cfg.bigEndian (s.sp + 4) .word ∧ t.psr = t.epsr ∧ t.pc = t.epc &&& 0xFFFFFFFE ∧
        t.spOf s.bank14 = s.sp + 8 ∧ (∀ b, b ≠ s.bank14 → t.spOf b = s.spOf b) ∧
        (∀ n, n ≠ 14 → t.reg n = s.reg n) ∧ SameControl s t ∧ SameMemory s t))

/-- A multi-access instruction whose address is not word aligned takes the misaligned access exception whatever PSR.MM
is (R79, R362, R365, R412, R425, R434). The clauses of LDQ and STQ are R79's inference from R362 and R365. -/
def Obligations.multi_misaligned_traps : Prop :=
  ∀ (s : State) (ry rx n r15 list1 : Nat),
    ((∀ k ≤ n, s.hasReg (ry + k) = true) → s.hasReg rx = true → Width.word.aligned (s.reg rx) = false →
      ((rx < ry ∨ ry + n < rx) → Traps (.ldm32 ry rx n) s 1) ∧ Traps (.stm32 ry rx n) s 1 ∧
      ((rx < 4 ∨ 7 < rx) → Traps (.ldq32 rx) s 1) ∧ Traps (.stq32 rx) s 1) ∧
    (Width.word.aligned s.sp = false →
      (list1 ≤ 8 → (list1 ≠ 0 ∨ r15 = 1) → Traps (.push16 r15 list1) s 1 ∧ Traps (.pop16 r15 list1) s 1) ∧
      (s.cfg.nest = true → Traps .ipush16 s 1 ∧ Traps .ipop16 s 1 ∧
        (s.psrS = true → Traps .nie16 s 1 ∧ Traps .nir16 s 1)))

/-- A multi-access instruction refused part way keeps its stores and not its register updates (R360, R366, R367, R368,
R369, R370, R371). What stays of a part-done instruction is the spec's decision D26, the order of PUSH and POP its
decision D25, log 28. -/
def Obligations.multi_partial_execution : Prop :=
  ∀ (s t : State) (i : Instr) (k : Nat), exec i s = .next t →
    (∀ regs a kind sp, multiAccess s i = some (regs, a, kind, sp) → k < regs.length → Width.word.aligned a = true →
      AllowedWords s (doneAddr i regs a k) k kind sp →
      s.checkAccess (nextAddr i regs a k) .word kind sp = .error (.raise .accessError) →
      PartDone s t (doneRegs i regs k) (doneAddr i regs a k) kind ∧ t.epc = s.pc ∧ SameControl s t) ∧
    (i = .nie16 → s.cfg.nest = true → s.psrS = true → k < 2 → Width.word.aligned s.sp = true →
      AllowedWords s (s.sp - BitVec.ofNat 32 (4 * k)) k .write true →
      s.checkAccess (s.sp - BitVec.ofNat 32 (4 * k) - 4) .word .write true = .error (.raise .accessError) →
      StoredWords s t (s.sp - BitVec.ofNat 32 (4 * k)) ([s.epsr, s.epc].drop (2 - k)) ∧ SameRegs s t ∧
      t.epc = s.pc ∧ SameControl s t) ∧
    (i = .nir16 → s.cfg.nest = true → s.psrS = true → k < 2 → Width.word.aligned s.sp = true →
      AllowedWords s s.sp k .read true →
      s.checkAccess (s.sp + BitVec.ofNat 32 (4 * k)) .word .read true = .error (.raise .accessError) →
      SameRegs s t ∧ t.epc = s.pc ∧ SameControl s t ∧ SameMemory s t)

/-- With PSR.IC = 1 an interrupt may abandon a multi-access instruction after some transfers, with EPC the instruction
itself (R360, R366, R367, R445). What stays of a part-done instruction is the spec's decision D26, the order of PUSH
and POP its decision D25; that vector 22 may cut an instruction too is the model's choice, log 34. -/
def Obligations.interrupt_inside_multi_access : Prop :=
  ∀ (s u : State) (i : Instr) (regs : List Nat) (a : Word) (kind : AccessKind) (sp : Bool) (k : Nat) (v : BitVec 8)
    (ms : List Move), s.moves = .cut k :: ms → s.run = .normal →
    s.dpPending = false → s.irq = some v → s.psrIE = true → s.psrEE = true → s.psrIC = true →
    u = { s.tick with moves := ms } → u.fetchInstr = .ok (.ok i) → multiAccess u i = some (regs, a, kind, sp) →
    0 < k → k < regs.length → AllowedWords u (doneAddr i regs a k) k kind sp →
    (∀ m stale held old, ∃ w,
      ({ u with mem := m, stale := stale, held := held, old := old }.enter v s.pc).vectorWord v = .ok w) →
    StepsTo s (fun t =>
      PartDone u t (doneRegs i regs k) (doneAddr i regs a k) kind ∧ (∃ w, t.vectorWord v = .ok w ∧ t.pc = evenAddr w) ∧
      t.epc = s.pc ∧ t.epsr = s.psr ∧ t.psrS = true ∧ t.psrVec = v ∧ t.psrEE = false ∧ t.psrIE = false ∧
      SameControl u t)

/-- BPUSH and BPOP move data and BSP, or on overflow call SVBR - 12 (R379, R380, R381, R382, R383). The comparisons
without wrap-around and the restriction to BM = 1 are the spec's decision D24, log 26; that bit 0 of SVBR - 12 is
dropped is the model's reading of R26 (R379 gives the PC SVBR - 12), log 30. -/
def Obligations.binary_translation_stack_results : Prop :=
  ∀ (s : State) (rz : Nat), s.cfg.bct = true → s.psrBM = true → rz < 8 →
    (∀ i w, (i = .bpush16h rz ∧ w = Width.half ∨ i = .bpush16w rz ∧ w = Width.word) →
      (s.top.toNat < s.bsp.toNat + w.bytes →
        Completes i s (Links s · (s.pc + 2) ((s.reg 30 - 12) &&& 0xFFFFFFFE))) ∧
      (s.bsp.toNat + w.bytes ≤ s.top.toNat → Allowed s s.bsp w .write false →
        Completes i s (fun t => Stored s t s.bsp w (s.reg rz) ∧ t.reg 25 = s.bsp + BitVec.ofNat 32 w.bytes ∧
          RegsExcept s t [25] ∧ t.psr = s.psr ∧ SameSaved s t ∧ SameControl s t ∧ t.pc = s.pc + 2))) ∧
    (∀ i w, (i = .bpop16h rz ∧ w = Width.half ∨ i = .bpop16w rz ∧ w = Width.word) →
      (s.bsp.toNat < s.fpB.toNat + w.bytes →
        Completes i s (Links s · (s.pc + 2) ((s.reg 30 - 12) &&& 0xFFFFFFFE))) ∧
      (s.fpB.toNat + w.bytes ≤ s.bsp.toNat → Allowed s (s.bsp - BitVec.ofNat 32 w.bytes) w .read false →
        Completes i s (fun t => t.reg rz = s.mem.load s.cfg.bigEndian (s.bsp - BitVec.ofNat 32 w.bytes) w ∧
          t.reg 25 = s.bsp - BitVec.ofNat 32 w.bytes ∧ RegsExcept s t [rz, 25] ∧ t.psr = s.psr ∧ SameSaved s t ∧
          SameControl s t ∧ SameMemory s t ∧ t.pc = s.pc + 2)))

/-- In supervisor mode MFCR copies the control register into RZ and changes nothing else (R30, R31, R48, R52, R53,
R56, R58, R390). CR<15,1> read in every supervisor state is the spec's decision D11, log 46, the reserved bits that
read 0 its decision D5, and the places of the fields are parameters, logs 9 and 10. -/
def Obligations.control_register_reads : Prop :=
  ∀ (s : State) (rz : Nat), s.psrS = true → s.hasReg rz = true →
    Completes (.mfcr32 rz 0 0) s (Writes s · rz (s.psr) 4) ∧
    (s.cfg.vbr = true → Completes (.mfcr32 rz 1 0) s (Writes s · rz (s.vbr) 4)) ∧
    Completes (.mfcr32 rz 2 0) s (Writes s · rz (s.epsr) 4) ∧
    Completes (.mfcr32 rz 4 0) s (Writes s · rz (s.epc) 4) ∧
    (0 < s.cfg.gcrWidth → Completes (.mfcr32 rz 11 0) s (Writes s · rz (s.gcr) 4)) ∧
    (0 < s.cfg.gsrWidth → Completes (.mfcr32 rz 12 0) s (Writes s · rz (s.gsr &&& BitVec.ofNat 32 (2 ^ s.cfg.gsrWidth - 1)) 4)) ∧
    Completes (.mfcr32 rz 13 0) s (Writes s · rz (s.cfg.cpuid) 4) ∧
    (∃ v, Completes (.mfcr32 rz 18 0) s (Writes s · rz v 4) ∧ ∀ k < 32,
      v.getLsbD k = (s.ccrMp.getLsbD k || decide (k = s.cfg.ccrBeBit) && s.cfg.bigEndian ||
        decide (s.cfg.ccrSckLsb ≤ k) && s.cfg.sck.getLsbD (k - s.cfg.ccrSckLsb) ||
        decide (k = s.cfg.ccrBeV2Bit) && s.cfg.beV2)) ∧
    (0 < s.cfg.mpuRegions → Completes (.mfcr32 rz 19 0) s (Writes s · rz (s.capr) 4)) ∧
    (s.prsr.toNat < s.cfg.mpuRegions → Completes (.mfcr32 rz 20 0) s (Writes s · rz (s.region s.prsr.toNat) 4)) ∧
    (0 < s.cfg.mpuRegions → Completes (.mfcr32 rz 21 0) s (Writes s · rz (BitVec.ofNat 32 s.prsr.toNat) 4)) ∧
    (s.cfg.chrIseBit ≠ s.cfg.chrIaeBit → (∃ v, Completes (.mfcr32 rz 31 0) s (Writes s · rz v 4) ∧ ∀ k < 32,
      v.getLsbD k = (decide (k = s.cfg.chrIseBit) && s.chrIse || decide (k = s.cfg.chrIaeBit) && s.chrIae))) ∧
    Completes (.mfcr32 rz 14 1) s (Writes s · rz (s.userSp) 4) ∧
    (s.cfg.intSp = true → Completes (.mfcr32 rz 15 1) s (Writes s · rz (s.intSp) 4)) ∧
    (s.cfg.stackGuard = true → (s.cfg.sgeBit ≠ s.cfg.sgpBit → (∃ v, Completes (.mfcr32 rz 0 4) s (Writes s · rz v 4) ∧ ∀ k < 32,
      v.getLsbD k = (decide (k = s.cfg.sgeBit) && s.sgcrSge || decide (k = s.cfg.sgpBit) && s.sgcrSgp)))) ∧
    (s.cfg.stackGuard = true → Completes (.mfcr32 rz 1 4) s (Writes s · rz (s.sgtr) 4)) ∧
    (s.cfg.stackGuard = true → Completes (.mfcr32 rz 2 4) s (Writes s · rz (s.sgbr) 4)) ∧
    (s.cfg.stackGuard = true → s.cfg.intSp = true → Completes (.mfcr32 rz 6 4) s (Writes s · rz (s.sgistr) 4)) ∧
    (s.cfg.stackGuard = true → s.cfg.intSp = true → Completes (.mfcr32 rz 7 4) s (Writes s · rz (s.sgisbr) 4))

/-- In supervisor mode MTCR writes the implemented bits of the control register and nothing else (R31, R42, R43, R45,
R48, R51, R52, R53, R54, R55, R58, R391). CR<15,1> written in every supervisor state is the spec's decision D11, log
46; that reserved bits ignore a write and that EPSR has the layout of PSR are its decision D5, log 44; the places of
the fields are parameters, logs 9 and 10. Four clauses are the spec's own inferences: that CHR without the reset key
still writes ISE and IAE (R48, log 48), that a write to a read-only register has no effect (R31), that the CAPR fields of
absent regions are reserved (R54), and that SGTR and SGBR are 32 bits wide (R59, with SGISTR and SGISBR alike), log 44. -/
def Obligations.control_register_writes : Prop :=
  ∀ (s : State) (rx : Nat) (v : Word), s.psrS = true → s.hasReg rx = true → v = s.reg rx →
    (exec (.mtcr32 rx 0 0) s = .next ({ s with psr := v &&& psrMask s.cfg }.advance 4)) ∧
    (s.cfg.vbr = true → exec (.mtcr32 rx 1 0) s = .next ({ s with vbr := v &&& 0xFFFFFC00 }.advance 4)) ∧
    (exec (.mtcr32 rx 2 0) s = .next ({ s with epsr := v &&& psrMask s.cfg }.advance 4)) ∧
    (exec (.mtcr32 rx 4 0) s = .next ({ s with epc := v }.advance 4)) ∧
    (0 < s.cfg.gcrWidth → exec (.mtcr32 rx 11 0) s = .next ({ s with gcr := v &&& lowMask s.cfg.gcrWidth }.advance 4)) ∧
    (0 < s.cfg.gsrWidth → exec (.mtcr32 rx 12 0) s = .next (s.advance 4)) ∧
    exec (.mtcr32 rx 13 0) s = .next (s.advance 4) ∧
    (exec (.mtcr32 rx 18 0) s = .next ({ s with ccrMp := v.extractLsb' 0 2 }.advance 4)) ∧
    (0 < s.cfg.mpuRegions → exec (.mtcr32 rx 19 0) s = .next ({ s with capr := v &&& caprMask s.cfg.mpuRegions }.advance 4)) ∧
    (s.prsr.toNat < s.cfg.mpuRegions → exec (.mtcr32 rx 20 0) s = .next ({ s with pacr := s.pacr.setIfInBounds s.prsr.toNat (v &&& 0xFFFFFFBF) }.advance 4)) ∧
    (0 < s.cfg.mpuRegions → exec (.mtcr32 rx 21 0) s = .next ({ s with prsr := v.extractLsb' 0 3 }.advance 4)) ∧
    (s.requestsReset 31 0 v = false → exec (.mtcr32 rx 31 0) s = .next ({ s with chrIse := s.cfg.intSp && v.getLsbD s.cfg.chrIseBit, chrIae := v.getLsbD s.cfg.chrIaeBit }.advance 4)) ∧
    (exec (.mtcr32 rx 14 1) s = .next ({ s with userSp := v }.advance 4)) ∧
    (s.cfg.intSp = true → exec (.mtcr32 rx 15 1) s = .next ({ s with intSp := v }.advance 4)) ∧
    (s.cfg.stackGuard = true → exec (.mtcr32 rx 0 4) s = .next ({ s with sgcrSge := v.getLsbD s.cfg.sgeBit, sgcrSgp := v.getLsbD s.cfg.sgpBit }.advance 4)) ∧
    (s.cfg.stackGuard = true → exec (.mtcr32 rx 1 4) s = .next ({ s with sgtr := v }.advance 4)) ∧
    (s.cfg.stackGuard = true → exec (.mtcr32 rx 2 4) s = .next ({ s with sgbr := v }.advance 4)) ∧
    (s.cfg.stackGuard = true → s.cfg.intSp = true → exec (.mtcr32 rx 6 4) s = .next ({ s with sgistr := v }.advance 4)) ∧
    (s.cfg.stackGuard = true → s.cfg.intSp = true → exec (.mtcr32 rx 7 4) s = .next ({ s with sgisbr := v }.advance 4))

/-- In user mode the privileged instructions take the privilege violation exception and do nothing else (R392, R420).
-/
def Obligations.privileged_instructions_trap_in_user_mode : Prop :=
  ∀ (s : State) (rz rx n sel : Nat), s.psrS = false →
    Traps (.mfcr32 rz n sel) s 5 ∧ Traps (.mtcr32 rx n sel) s 5 ∧ Traps .rte32 s 5 ∧ Traps .stop32 s 5 ∧
    Traps .doze32 s 5 ∧ Traps .wait32 s 5 ∧ (s.cfg.nest = true → Traps .nie16 s 5 ∧ Traps .nir16 s 5)

/-- RTE restores PSR from EPSR and goes to EPC (R393, R430). -/
def Obligations.return_from_exception_results : Prop :=
  ∀ s : State, s.psrS = true →
    Completes .rte32 s (fun t => t.psr = s.epsr &&& psrMask s.cfg ∧ t.pc = s.epc &&& 0xFFFFFFFE ∧ SameRegs s t ∧
      SameSaved s t ∧ SameControl s t ∧ SameMemory s t) ∧
    (∀ u vec, s.psr &&& psrMask s.cfg = s.psr → s.takeVector vec s.pc = .next u → u.epsr = s.psr →
      Completes .rte32 u (fun t => t.psr = s.psr ∧ t.pc = s.pc &&& 0xFFFFFFFE ∧ SameRegs s t ∧ SameControl s t ∧
        SameMemory s t))

/-- STOP, DOZE and WAIT enter low power, SYNC only goes on, BMSET and BMCLR change BM only (R394, R395, R396, R397,
R398, R400, R401). -/
def Obligations.low_power_and_mode_results : Prop :=
  ∀ s : State,
    (s.psrS = true → ∀ i m, (i = .stop32 ∧ m = RunState.stop ∨ i = .doze32 ∧ m = RunState.doze ∨
        i = .wait32 ∧ m = RunState.wait) →
      Completes i s (fun t => GoesTo s { t with run := s.run } (s.pc + 4) ∧ t.run = m)) ∧
    Completes .sync32 s (GoesTo s · (s.pc + 4)) ∧
    (s.cfg.bct = true → ∀ i b, (i = .bmset32 ∧ b = true ∨ i = .bmclr32 ∧ b = false) →
      Completes i s (fun t => t.psrBM = b ∧ (∀ k, k ≠ 2 → t.psr.getLsbD k = s.psr.getLsbD k) ∧ SameRegs s t ∧
        SameSaved s t ∧ SameControl s t ∧ SameMemory s t ∧ t.pc = s.pc + 4))

/-- TRAP n enters vector 16 + n and BKPT vector 7, or debug mode with CSR.FDB = 1 (R399, R402, R421, R423, R460). That
with CSR.FDB = 1 the PC stays at the BKPT and only the run state changes is the spec's own inference in R460, log 36. -/
def Obligations.trap_and_breakpoint_enter : Prop :=
  ∀ (s : State) (n : Nat),
    (n < 4 → Traps (.trap32 n) s (BitVec.ofNat 8 (16 + n))) ∧ (s.hadFdb = false → Traps .bkpt16 s 7) ∧
    (s.hadFdb = true → exec .bkpt16 s = .next { s with run := .debug })

/-- Without their option the binary-translation and nesting instructions are illegal instructions (R143, R414). That
the instructions of an option that is not configured are illegal is named in the spec's decision D20, log 23. -/
def Obligations.unconfigured_instructions_are_illegal : Prop :=
  ∀ (s : State) (rx n rz : Nat),
    (s.cfg.bct = false → Traps (.jmpix16 rx n) s 4 ∧ Traps (.bpush16h rz) s 4 ∧ Traps (.bpush16w rz) s 4 ∧
      Traps (.bpop16h rz) s 4 ∧ Traps (.bpop16w rz) s 4 ∧ Traps .bmset32 s 4 ∧ Traps .bmclr32 s 4) ∧
    (s.cfg.nest = false → Traps .nie16 s 4 ∧ Traps .nir16 s 4 ∧ Traps .ipush16 s 4 ∧ Traps .ipop16 s 4)

/-- Where the spec refuses, the model refuses by name (R24, R30, R31, R288, R361, R362, R379). These are the spec's
decisions D2, D4, D21 and D24 and its item U13. -/
def Obligations.refusals_of_the_spec : Prop :=
  ∀ (s : State) (i : Instr) (rz rx ry n sel : Nat),
    (i.wf = true → s.psrS = true → (∃ r ∈ namedRegs i, s.hasReg r = false) →
      exec i s = .refused .unimplementedRegister) ∧
    (s.hasReg rz = true → n < 16 → exec (.bmaski32 rz n) s = .refused .bmaskiSmall) ∧
    ((∀ k ≤ n, s.hasReg (ry + k) = true) → ry ≤ rx → rx ≤ ry + n →
      exec (.ldm32 ry rx n) s = .refused .ldmBaseInRange) ∧
    (4 ≤ rx → rx ≤ 7 → exec (.ldq32 rx) s = .refused .ldmBaseInRange) ∧
    (s.cfg.bct = true → s.psrBM = false → rz < 8 → exec (.bpush16h rz) s = .refused .bctModeOff ∧
      exec (.bpush16w rz) s = .refused .bctModeOff ∧ exec (.bpop16h rz) s = .refused .bctModeOff ∧
      exec (.bpop16w rz) s = .refused .bctModeOff) ∧
    (s.psrS = true → s.hasReg rz = true → s.hasReg rx = true → ¬ CrExists s.cfg n sel →
      exec (.mfcr32 rz n sel) s = .refused .unimplementedControlRegister ∧
      exec (.mtcr32 rx n sel) s = .refused .unimplementedControlRegister)

/-- A vector word that cannot be read leads to vector 8, and if that fails too the machine is stuck (R426). -/
def Obligations.failed_vector_read : Prop :=
  ∀ (s u v : State) (n : Nat) (c d : Cause) (w : Word), n < 4 →
    u = s.enter (syncVector s (BitVec.ofNat 8 (16 + n))) s.pc →
    u.vectorWord (syncVector s (BitVec.ofNat 8 (16 + n))) = .error (.raise c) → v = u.enter 8 s.pc →
    (v.vectorWord 8 = .ok w → Completes (.trap32 n) s (fun t => Entered u t 8 s.pc w)) ∧
    (v.vectorWord 8 = .error (.raise d) → exec (.trap32 n) s = .fault .stuckVectorRead)

/-- The reset key in CHR resets the core with PSR.EE = 1 and in debug mode, tells the platform, and is unrecoverable with
PSR.EE = 0 (R63, R470, R471, R472). CCR.MP and the E bits are the spec's decision D8, ISE, IAE and the pending bit its
decision D10. That the reset takes the place of the MTCR at once is the spec's own inference in R472, log 48, and that the
system's part of it comes before the read of the word at 0 is the model's choice, log 65. -/
def Obligations.software_reset_request : Prop :=
  ∀ (s u : State) (rx : Nat) (v : Word) (ms : List Move),
    (s.psrS = true → s.hasReg rx = true → s.requestsReset 31 0 (s.reg rx) = true →
      (s.psrEE = false → Traps (.mtcr32 rx 31 0) s 8) ∧
      (s.psrEE = true → ResetVectorReads s →
        Completes (.mtcr32 rx 31 0) s (fun t => ResetDone s t ∧ t.run = .normal ∧ t.resetRequest = true))) ∧
    (s.run = .debug → s.moves = .debugCr 31 0 v :: ms → u = { s.tick with moves := ms } →
      s.requestsReset 31 0 v = true → ResetVectorReads u →
      StepsTo s (fun t => ResetDone u t ∧ t.run = .debug ∧ t.resetRequest = true))

/-- The reset input takes the reset sequence from every state, and the general-register reset clears the registers
(R25, R63, R466, R470, R471). CCR.MP and the E bits are the spec's decision D8, ISE, IAE and the pending bit its
decision D10, and the value that the general registers get its decision D7. That the system's part of a reset comes
before the read of the word at 0 is the model's choice, log 65. -/
def Obligations.reset_inputs : Prop :=
  ∀ (s u : State) (ms : List Move), u = { s.tick with moves := ms } →
    (s.moves = .reset :: ms → ResetVectorReads u →
      StepsTo s (fun t => ResetDone u t ∧ t.run = .normal ∧ t.resetRequest = false)) ∧
    (s.moves = .gprReset :: ms → s.cfg.security = true → s.cfg.gprReset = true →
      StepsTo s (fun t => (∀ n, t.reg n = 0) ∧ (∀ b, t.spOf b = 0) ∧ t.pc = s.pc ∧ t.psr = s.psr ∧ SameSaved s t ∧
        SameControl u t ∧ SameMemory s t))

/-- The reset state has the values the spec gives (R63). -/
def Obligations.reset_values : Prop :=
  State.reset.psr = 0x80000000 ∧ State.reset.vbr = 0 ∧ State.reset.capr = 0 ∧ State.reset.ccrMp = 0 ∧
    State.reset.cer = 0 ∧ State.reset.readTcip .cir = 0 ∧ (∀ i : Fin 4, State.reset.crcr[i] = 0) ∧
    (∀ i : Fin 8, (State.reset.pacr[i]).getLsbD 0 = false) ∧ State.reset.chrIse = false ∧ State.reset.chrIae = false ∧
    State.reset.sgcrSge = false ∧ State.reset.sgcrSgp = false ∧ State.reset.dpPending = false ∧
    State.reset.run = .normal

/-- An enabled interrupt is taken at the boundary with EPC the next instruction, after a misaligned access and unless
masked (R425, R440, R441, R448). That it comes before a bkpt16 that would enter debug mode and before an MTCR that
would request a reset is the model's choice, logs 57 and 62; how a misaligned access is found, log 33. -/
def Obligations.interrupt_entry : Prop :=
  ∀ (s : State) (v : BitVec 8) (w : Word), s.moves = [] → s.run = .normal → s.dpPending = false → s.irq = some v →
    (s.psrIE = true → s.psrEE = true → s.tick.misalignedNext = false → VectorReads s.tick v s.pc w →
      StepsTo s (fun t => Entered s.tick t v s.pc w)) ∧
    (s.psrIE = true → s.psrEE = true → ∀ i, s.tick.fetchInstr = .ok (.ok i) →
      ((∃ a n k sp, dataAccess s.tick i = some (a, n, k, sp) ∧ n.aligned a = false ∧ s.psrMM = false) ∨
        ∃ regs a k sp, multiAccess s.tick i = some (regs, a, k, sp) ∧ regs ≠ [] ∧ Width.word.aligned a = false) →
      step s = exec i s.tick.afterFetch ∧
        (VectorReads s.tick 1 s.pc w → StepsTo s (fun t => Entered s.tick t 1 s.pc w))) ∧
    ((s.psrIE = false ∨ s.psrEE = false) → step s = s.tick.runInstr)

/-- In an interrupt of vector 32 or more with CHR.ISE = 1, R14 is the interrupt stack pointer (R23, R446). -/
def Obligations.interrupt_bank : Prop :=
  ∀ (s t : State) (v : BitVec 8) (ret w : Word), Entered s t v ret w →
    t.reg 14 = (if s.cfg.intSp = true ∧ s.chrIse = true ∧ 32 ≤ v.toNat then s.intSp else s.spvSp) ∧
    t.userSp = s.userSp ∧ t.spvSp = s.spvSp ∧ t.intSp = s.intSp

/-- Low power lasts until an interrupt request, debug and violation until their own release (R398, R461, R463, R465).
Waking is the spec's decision D27. That a misaligned access of the next instruction comes before the interrupt that
wakes the core, as R448 has it at any boundary, is the model's choice, log 64. -/
def Obligations.low_power_waits_and_wakes : Prop :=
  ∀ s : State, s.moves = [] →
    ((s.run = .stop ∨ s.run = .doze ∨ s.run = .wait) →
      (s.irq = none → step s = .next s.tick) ∧
      (s.irq.isSome = true → s.dpPending = false → (s.psrIE = false ∨ s.psrEE = false) →
        step s = { s.tick with run := .normal }.runInstr) ∧
      (∀ u v w, u = { s.tick with run := .normal } → s.irq = some v → s.dpPending = false → s.psrIE = true →
        s.psrEE = true → u.misalignedNext = false → VectorReads u v s.pc w →
        StepsTo s (fun t => Entered u t v s.pc w)) ∧
      (∀ u i w, u = { s.tick with run := .normal } → s.irq.isSome = true → s.dpPending = false → s.psrIE = true →
        s.psrEE = true → u.fetchInstr = .ok (.ok i) →
        ((∃ a n k sp, dataAccess u i = some (a, n, k, sp) ∧ n.aligned a = false ∧ s.psrMM = false) ∨
          ∃ regs a k sp, multiAccess u i = some (regs, a, k, sp) ∧ regs ≠ [] ∧ Width.word.aligned a = false) →
        step s = exec i u.afterFetch ∧
          (VectorReads u 1 s.pc w → StepsTo s (fun t => Entered u t 1 s.pc w)))) ∧
    ((s.run = .debug ∨ s.run = .violation) → step s = .next s.tick)

/-- Only a reset leaves the security violation state, and in debug mode the debugger changes state and releases the
core (R461, R462, R463). That the debugger's commands come as moves of the environment is the model's own form, log
36. -/
def Obligations.debug_and_violation_states : Prop :=
  ∀ (s u : State) (m : Move) (ms : List Move),
    (∀ t, s.run = .violation → step s = .next t → (∀ ms, s.moves ≠ .reset :: ms) →
      (∀ k ms, s.moves ≠ .resetIn k :: ms) → t.run = .violation ∧ t.pc = s.pc ∧ t.psr = s.psr) ∧
    (s.run = .debug → s.moves = m :: ms → u = { s.tick with moves := ms } →
      (∀ n v, m = .debugReg n v → s.hasReg n = true →
        StepsTo s (fun t => t.reg n = v ∧ RegsExcept u t [n] ∧ t.psr = s.psr ∧ SameSaved s t ∧ SameControl u t ∧
          SameMemory s t ∧ t.pc = s.pc)) ∧
      (∀ v, m = .debugPc v → step s = .next { u with pc := v &&& 0xFFFFFFFE }) ∧
      (∀ v, m = .debugCr 0 0 v → step s = .next { u with psr := v &&& psrMask s.cfg }) ∧
      (∀ b, m = .debugDp b → step s = .next { u with dpPending := b }) ∧
      (∀ a b, m = .debugMem a b →
        StepsTo s (fun t => t.mem.byteAt a = b ∧ (∀ x, x ≠ a → t.mem.byteAt x = s.mem.byteAt x) ∧ SameRegs s t ∧
          t.psr = s.psr ∧ SameSaved s t ∧ SameControl u t ∧ t.pc = s.pc)) ∧
      (m = .debugResume → step s = .next { u with run := .normal }))

/-- An address-watch hit is taken at once with EE = 1 and held pending with EE = 0 (R422, R437). That a hit that was
pending stays so beside a new one is the model's choice, log 61; that a pending one is delivered whatever CSR.MBEE is
then is its reading, log 37. -/
def Obligations.address_watch : Prop :=
  ∀ (s u : State) (w : Word) (ms : List Move), s.run = .normal →
    (s.moves = .watch :: ms → s.hadMbee = true → u = { s.tick with moves := ms } →
      (s.psrEE = true → VectorReads u 7 s.pc w → StepsTo s (fun t => Entered u t 7 s.pc w)) ∧
      (s.psrEE = false → step s = .next { u with dpPending := true })) ∧
    (s.moves = [] → s.dpPending = true → s.psrEE = true → u = { s.tick with dpPending := false } →
      VectorReads u 7 s.pc w → StepsTo s (fun t => Entered u t 7 s.pc w))

/-- A parcel just stored to is refused until made visible, and a cached read gives memory unless a line may be old
(R106, R107, R110, R112). The refusal of a stale parcel is the spec's decision D15; which lines may be old, and that a
hit there gives an open value, is the model's reading of rules R106 to R113, log 12. -/
def Obligations.stored_code_and_cached_reads : Prop :=
  ∀ (s t : State) (rz rx off : Nat) (a : Word), a = s.baseOffset rx off 2 → s.hasReg rz = true → s.hasReg rx = true →
    (s.cfg.smcCoherent = false → Allowed s a .word .write (rx == 14) → exec (.st32w rz rx off) s = .next t →
      (∀ h, t.fetchParcel a ≠ .ok h) ∧ (∀ h, t.fetchParcel (a + 2) ≠ .ok h)) ∧
    (s.cer.getLsbD 0 = false → ∃ u v, exec .sync32 s = .next u ∧ exec (.jmp16 rx) u = .next v ∧ v.stale = []) ∧
    (s.isCached a .read = .ok true →
      s.cfg.cache ≠ .absent ∧ s.cer.getLsbD 0 = true ∧ s.cer.getLsbD 1 = false ∧ s.onIbus a = true ∧
      ∃ n, n < s.cfg.cacheRegions ∧ ∃ p, p = (s.crcr[n]?.getD 0).toNat ∧ p % 2 = 1 ∧
        p / 1024 * 1024 ≤ a.toNat ∧ a.toNat < p / 1024 * 1024 + 2 ^ (p / 2 % 32 + 1)) ∧
    (∀ cached, Width.word.aligned a = true → s.checkAccess a .word .read (rx == 14) = .ok () →
      (s.cfg.tcip && isTcip a) = false → s.isCached a .read = .ok cached → s.slave .read cached a = some .ram →
      ∃ v, Completes (.ld32w rz rx off) s (Writes s · rz v 4) ∧
        ((cached = true → s.mayHitOld a 4 = false) → v = s.mem.load s.cfg.bigEndian a .word))

/-- The reset state satisfies the invariant (R26, R31, R63). -/
def Obligations.reset_satisfies_invariant : Prop :=
  State.reset.Inv

/-- Every step keeps the memory canonical, the PC even, the reserved bits 0 and the configuration (R26, R31, R32, R39,
R40, R42, R43, R45, R54, R55, R110, R112). -/
def Obligations.step_keeps_invariant : Prop :=
  ∀ s t : State, s.Inv → step s = .next t → t.Inv ∧ t.cfg = s.cfg

/-- A user-mode instruction leaves the supervisor's registers alone and leaves user mode only through an exception
(R33, R34, R40, R86, R420, R425). That no user-mode access reaches CER, CRCR and SECR is the spec's decision D13, log
16. -/
def Obligations.user_mode_is_confined : Prop :=
  ∀ (i : Instr) (s t : State), i.wf = true → s.psrS = false → s.hadFdb = false → exec i s = .next t →
    t.spvSp = s.spvSp ∧ t.intSp = s.intSp ∧ SameControl s t ∧
    ((t.psrS = false ∧ SameSaved s t ∧ ∀ k, k ≠ 0 → k ≠ 2 → t.psr.getLsbD k = s.psr.getLsbD k) ∨
      (t.psrS = true ∧ t.epc = s.pc ∧ t.psrEE = false ∧ t.psrIE = false ∧ t.psrVec.toNat < 20))
end

