-- ==== Sys2Proof/Laws/Memory.lean ====
section
/-! SUPPORT. Memory: a read after a write, and the canonical form, which every memory operation keeps. -/

namespace Sys2Proof.Machine

/-! ### One byte -/

theorem read_place_same (m : Memory) (a : Nat) (b : Byte) (h : ∀ c ∈ m, c.1 ≠ a) :
    Memory.read (Memory.place m a b) a = b := by
  induction m with
  | nil => simp [Memory.place, Memory.read]
  | cons c m ih =>
    have hc : c.1 ≠ a := h c (by simp)
    have hm : ∀ c ∈ m, c.1 ≠ a := fun d hd => h d (by simp [hd])
    by_cases hlt : a < c.1 <;> simp [Memory.place, Memory.read, hlt, hc, ih hm]

theorem read_place_other (m : Memory) (a x : Nat) (b : Byte) (hx : x ≠ a) :
    Memory.read (Memory.place m a b) x = Memory.read m x := by
  induction m with
  | nil => simp [Memory.place, Memory.read, hx.symm]
  | cons c m ih =>
    by_cases hlt : a < c.1 <;> simp [Memory.place, Memory.read, hlt, hx.symm, ih]

theorem read_filter_same (m : Memory) (a : Nat) :
    Memory.read (m.filter (fun c => c.1 ≠ a)) a = Memory.unlisted := by
  induction m with
  | nil => rfl
  | cons c m ih => by_cases hc : c.1 = a <;> simp_all [Memory.read]

theorem read_filter_other (m : Memory) (a x : Nat) (hx : x ≠ a) :
    Memory.read (m.filter (fun c => c.1 ≠ a)) x = Memory.read m x := by
  induction m with
  | nil => rfl
  | cons c m ih => by_cases hc : c.1 = a <;> by_cases hcx : c.1 = x <;> simp_all [Memory.read]

/-- A read after a write to the same address gives the byte written. -/
@[simp] theorem read_write_same (m : Memory) (a : Nat) (b : Byte) : Memory.read (Memory.write m a b) a = b := by
  unfold Memory.write
  by_cases hb : b = Memory.unlisted
  · simpa [hb] using read_filter_same m a
  · simp only [hb, if_false]
    exact read_place_same _ a b (fun c hc => by simpa using (List.mem_filter.mp hc).2)

/-- A write leaves every other address alone. -/
theorem read_write_other (m : Memory) (a x : Nat) (b : Byte) (hx : x ≠ a) :
    Memory.read (Memory.write m a b) x = Memory.read m x := by
  unfold Memory.write
  by_cases hb : b = Memory.unlisted
  · simpa [hb] using read_filter_other m a x hx
  · simp only [hb, if_false]
    rw [read_place_other _ a x b hx, read_filter_other m a x hx]

/-- The byte at a 32-bit address after a write to one. -/
theorem byteAt_setByte (m : Memory) (a x : Word) (b : Byte) :
    (m.setByte a b).byteAt x = if x = a then b else m.byteAt x := by
  by_cases h : x = a
  · simp [h, Memory.byteAt, Memory.setByte]
  · have : x.toNat ≠ a.toNat := fun e => h (BitVec.eq_of_toNat_eq e)
    simp [h, Memory.byteAt, Memory.setByte, read_write_other _ _ _ _ this]

@[simp] theorem byteAt_setByte_same (m : Memory) (a : Word) (b : Byte) : (m.setByte a b).byteAt a = b := by
  simp [byteAt_setByte]

theorem byteAt_setByte_other (m : Memory) (a x : Word) (b : Byte) (h : x ≠ a) :
    (m.setByte a b).byteAt x = m.byteAt x := by simp [byteAt_setByte, h]

/-! ### The canonical form -/

/-- The canonical form as a proposition. -/
theorem wf_iff (m : Memory) : m.wf = true ↔
    m.Pairwise (fun c d => c.1 < d.1) ∧ ∀ c ∈ m, c.1 < 2 ^ 32 ∧ c.2 ≠ Memory.unlisted := by
  simp [Memory.wf]

theorem mem_place (m : Memory) (a : Nat) (b : Byte) (c : Host.Cell) :
    c ∈ Memory.place m a b → c = (a, b) ∨ c ∈ m := by
  induction m with
  | nil => simp [Memory.place]
  | cons d m ih =>
    by_cases hlt : a < d.1
    · simp [Memory.place, hlt]
    · simp only [Memory.place, hlt, if_false, List.mem_cons]
      rintro (h | h)
      · exact .inr (.inl h)
      · exact (ih h).imp id .inr

theorem place_pairwise (m : Memory) (a : Nat) (b : Byte) (h : m.Pairwise (fun c d => c.1 < d.1))
    (ha : ∀ c ∈ m, c.1 ≠ a) : (Memory.place m a b).Pairwise (fun c d => c.1 < d.1) := by
  induction m with
  | nil => simp [Memory.place]
  | cons c m ih =>
    have hc := (List.pairwise_cons.mp h).1
    have hm := (List.pairwise_cons.mp h).2
    have hne : c.1 ≠ a := ha c (by simp)
    by_cases hlt : a < c.1
    · simp only [Memory.place, hlt, if_true]
      refine List.pairwise_cons.mpr ⟨?_, h⟩
      intro d hd
      rcases List.mem_cons.mp hd with rfl | hd
      · exact hlt
      · exact lt_trans hlt (hc d hd)
    · simp only [Memory.place, hlt, if_false]
      refine List.pairwise_cons.mpr ⟨?_, ih hm (fun d hd => ha d (by simp [hd]))⟩
      intro d hd
      rcases mem_place m a b d hd with rfl | hd
      · simp only; omega
      · exact hc d hd

/-- A write keeps the canonical form. -/
theorem write_wf (m : Memory) (a : Nat) (b : Byte) (h : m.wf = true) (ha : a < 2 ^ 32) :
    (m.write a b).wf = true := by
  rw [wf_iff] at h ⊢
  have hf : (m.filter (fun c => c.1 ≠ a)).Pairwise (fun c d => c.1 < d.1) := h.1.filter _
  unfold Memory.write
  by_cases hb : b = Memory.unlisted
  · simp only [hb, if_true]
    exact ⟨hf, fun c hc => h.2 c (List.mem_of_mem_filter hc)⟩
  · simp only [hb, if_false]
    refine ⟨place_pairwise _ a b hf (fun c hc => by simpa using (List.mem_filter.mp hc).2), ?_⟩
    intro c hc
    rcases mem_place _ a b c hc with rfl | hc
    · exact ⟨ha, hb⟩
    · exact h.2 c (List.mem_of_mem_filter hc)

theorem setByte_wf (m : Memory) (a : Word) (b : Byte) (h : m.wf = true) : (m.setByte a b).wf = true :=
  write_wf m a.toNat b h a.isLt

/-- A store of any width keeps the canonical form. -/
theorem store_wf (m : Memory) (be : Bool) (a v : Word) (w : Width) (h : m.wf = true) :
    (m.store be a v w).wf = true := by
  cases w <;> cases be <;> simp only [Memory.store, if_true, if_false, Bool.false_eq_true] <;>
    repeat (first | exact h | apply setByte_wf)

/-! ### Wide accesses -/

/-- The bytes an access does not cover are as before. -/
theorem byteAt_store_other (m : Memory) (be : Bool) (a v x : Word) (w : Width) (h : w.covers a x = false) :
    (m.store be a v w).byteAt x = m.byteAt x := by
  have key : ∀ k : Nat, k < w.bytes → x ≠ a + BitVec.ofNat 32 k := by
    intro k hk e
    subst e
    have hk4 : k < 4 := by cases w <;> simp [Width.bytes] at hk <;> omega
    simp [Width.covers] at h
    omega
  cases w <;> cases be <;> simp only [Memory.store, if_true, if_false, Bool.false_eq_true] <;>
    simp only [Width.bytes] at key
  all_goals
    have k0 : x ≠ a := by simpa using key 0 (by omega)
  case byte.false | byte.true => simp [byteAt_setByte, k0]
  case half.false | half.true =>
    have k1 : x ≠ a + 1#32 := by simpa using key 1 (by omega)
    simp [byteAt_setByte, k0, k1]
  case word.false | word.true =>
    have k1 : x ≠ a + 1#32 := by simpa using key 1 (by omega)
    have k2 : x ≠ a + 2#32 := by simpa using key 2 (by omega)
    have k3 : x ≠ a + 3#32 := by simpa using key 3 (by omega)
    simp [byteAt_setByte, k0, k1, k2, k3]

/-- The byte `k` after `a` of a store, little endian: byte `k` of the value. -/
theorem byteAt_store_little (m : Memory) (a v : Word) (w : Width) (k : Nat) (hk : k < w.bytes) :
    (m.store false a v w).byteAt (a + BitVec.ofNat 32 k) = v.extractLsb' (8 * k) 8 := by
  have hk4 : k = 0 ∨ k = 1 ∨ k = 2 ∨ k = 3 := by cases w <;> simp [Width.bytes] at hk <;> omega
  cases w <;> simp only [Width.bytes] at hk <;> rcases hk4 with rfl | rfl | rfl | rfl <;>
    simp_all [Memory.store, byteAt_setByte]

/-- The byte `k` after `a` of a store, big endian: byte `k` from the most significant end. -/
theorem byteAt_store_big (m : Memory) (a v : Word) (w : Width) (k : Nat) (hk : k < w.bytes) :
    (m.store true a v w).byteAt (a + BitVec.ofNat 32 k) = v.extractLsb' (8 * (w.bytes - 1 - k)) 8 := by
  have hk4 : k = 0 ∨ k = 1 ∨ k = 2 ∨ k = 3 := by cases w <;> simp [Width.bytes] at hk <;> omega
  cases w <;> simp only [Width.bytes] at hk <;> rcases hk4 with rfl | rfl | rfl | rfl <;>
    simp_all [Memory.store, byteAt_setByte, Width.bytes]

end Sys2Proof.Machine
end

