-- ==== Sys2Proof/Laws/State.lean ====
section
/-! SUPPORT. One lemma per field per update of the state: what an update leaves unchanged, and what it writes. -/

namespace Sys2Proof.Machine

/-! ### advance -/

@[simp] theorem advance_cfg (s : State) (len : Nat) : (s.advance len).cfg = s.cfg := rfl
@[simp] theorem advance_r (s : State) (len : Nat) : (s.advance len).r = s.r := rfl
@[simp] theorem advance_lr (s : State) (len : Nat) : (s.advance len).lr = s.lr := rfl
@[simp] theorem advance_userSp (s : State) (len : Nat) : (s.advance len).userSp = s.userSp := rfl
@[simp] theorem advance_spvSp (s : State) (len : Nat) : (s.advance len).spvSp = s.spvSp := rfl
@[simp] theorem advance_intSp (s : State) (len : Nat) : (s.advance len).intSp = s.intSp := rfl
@[simp] theorem advance_fpB (s : State) (len : Nat) : (s.advance len).fpB = s.fpB := rfl
@[simp] theorem advance_top (s : State) (len : Nat) : (s.advance len).top = s.top := rfl
@[simp] theorem advance_bsp (s : State) (len : Nat) : (s.advance len).bsp = s.bsp := rfl
@[simp] theorem advance_svbr (s : State) (len : Nat) : (s.advance len).svbr = s.svbr := rfl
@[simp] theorem advance_psr (s : State) (len : Nat) : (s.advance len).psr = s.psr := rfl
@[simp] theorem advance_vbr (s : State) (len : Nat) : (s.advance len).vbr = s.vbr := rfl
@[simp] theorem advance_epsr (s : State) (len : Nat) : (s.advance len).epsr = s.epsr := rfl
@[simp] theorem advance_epc (s : State) (len : Nat) : (s.advance len).epc = s.epc := rfl
@[simp] theorem advance_gcr (s : State) (len : Nat) : (s.advance len).gcr = s.gcr := rfl
@[simp] theorem advance_gsr (s : State) (len : Nat) : (s.advance len).gsr = s.gsr := rfl
@[simp] theorem advance_chrIse (s : State) (len : Nat) : (s.advance len).chrIse = s.chrIse := rfl
@[simp] theorem advance_chrIae (s : State) (len : Nat) : (s.advance len).chrIae = s.chrIae := rfl
@[simp] theorem advance_ccrMp (s : State) (len : Nat) : (s.advance len).ccrMp = s.ccrMp := rfl
@[simp] theorem advance_capr (s : State) (len : Nat) : (s.advance len).capr = s.capr := rfl
@[simp] theorem advance_pacr (s : State) (len : Nat) : (s.advance len).pacr = s.pacr := rfl
@[simp] theorem advance_prsr (s : State) (len : Nat) : (s.advance len).prsr = s.prsr := rfl
@[simp] theorem advance_sgcrSge (s : State) (len : Nat) : (s.advance len).sgcrSge = s.sgcrSge := rfl
@[simp] theorem advance_sgcrSgp (s : State) (len : Nat) : (s.advance len).sgcrSgp = s.sgcrSgp := rfl
@[simp] theorem advance_sgtr (s : State) (len : Nat) : (s.advance len).sgtr = s.sgtr := rfl
@[simp] theorem advance_sgbr (s : State) (len : Nat) : (s.advance len).sgbr = s.sgbr := rfl
@[simp] theorem advance_sgistr (s : State) (len : Nat) : (s.advance len).sgistr = s.sgistr := rfl
@[simp] theorem advance_sgisbr (s : State) (len : Nat) : (s.advance len).sgisbr = s.sgisbr := rfl
@[simp] theorem advance_cer (s : State) (len : Nat) : (s.advance len).cer = s.cer := rfl
@[simp] theorem advance_cirWritten (s : State) (len : Nat) : (s.advance len).cirWritten = s.cirWritten := rfl
@[simp] theorem advance_crcr (s : State) (len : Nat) : (s.advance len).crcr = s.crcr := rfl
@[simp] theorem advance_secr (s : State) (len : Nat) : (s.advance len).secr = s.secr := rfl
@[simp] theorem advance_dpPending (s : State) (len : Nat) : (s.advance len).dpPending = s.dpPending := rfl
@[simp] theorem advance_hadFdb (s : State) (len : Nat) : (s.advance len).hadFdb = s.hadFdb := rfl
@[simp] theorem advance_hadMbee (s : State) (len : Nat) : (s.advance len).hadMbee = s.hadMbee := rfl
@[simp] theorem advance_irq (s : State) (len : Nat) : (s.advance len).irq = s.irq := rfl
@[simp] theorem advance_run (s : State) (len : Nat) : (s.advance len).run = s.run := rfl
@[simp] theorem advance_held (s : State) (len : Nat) : (s.advance len).held = s.held := rfl
@[simp] theorem advance_old (s : State) (len : Nat) : (s.advance len).old = s.old := rfl
@[simp] theorem advance_mem (s : State) (len : Nat) : (s.advance len).mem = s.mem := rfl
@[simp] theorem advance_stale (s : State) (len : Nat) : (s.advance len).stale = s.stale := rfl
@[simp] theorem advance_answers (s : State) (len : Nat) : (s.advance len).answers = s.answers := rfl
@[simp] theorem advance_between (s : State) (len : Nat) : (s.advance len).between = s.between := rfl
@[simp] theorem advance_resetRequest (s : State) (len : Nat) : (s.advance len).resetRequest = s.resetRequest := rfl
@[simp] theorem advance_onReset (s : State) (len : Nat) : (s.advance len).onReset = s.onReset := rfl
@[simp] theorem advance_moves (s : State) (len : Nat) : (s.advance len).moves = s.moves := rfl
@[simp] theorem advance_free (s : State) (len : Nat) : (s.advance len).free = s.free := rfl

/-! ### jump -/

@[simp] theorem jump_cfg (s : State) (a : Word) : (s.jump a).cfg = s.cfg := rfl
@[simp] theorem jump_r (s : State) (a : Word) : (s.jump a).r = s.r := rfl
@[simp] theorem jump_lr (s : State) (a : Word) : (s.jump a).lr = s.lr := rfl
@[simp] theorem jump_userSp (s : State) (a : Word) : (s.jump a).userSp = s.userSp := rfl
@[simp] theorem jump_spvSp (s : State) (a : Word) : (s.jump a).spvSp = s.spvSp := rfl
@[simp] theorem jump_intSp (s : State) (a : Word) : (s.jump a).intSp = s.intSp := rfl
@[simp] theorem jump_fpB (s : State) (a : Word) : (s.jump a).fpB = s.fpB := rfl
@[simp] theorem jump_top (s : State) (a : Word) : (s.jump a).top = s.top := rfl
@[simp] theorem jump_bsp (s : State) (a : Word) : (s.jump a).bsp = s.bsp := rfl
@[simp] theorem jump_svbr (s : State) (a : Word) : (s.jump a).svbr = s.svbr := rfl
@[simp] theorem jump_psr (s : State) (a : Word) : (s.jump a).psr = s.psr := rfl
@[simp] theorem jump_vbr (s : State) (a : Word) : (s.jump a).vbr = s.vbr := rfl
@[simp] theorem jump_epsr (s : State) (a : Word) : (s.jump a).epsr = s.epsr := rfl
@[simp] theorem jump_epc (s : State) (a : Word) : (s.jump a).epc = s.epc := rfl
@[simp] theorem jump_gcr (s : State) (a : Word) : (s.jump a).gcr = s.gcr := rfl
@[simp] theorem jump_gsr (s : State) (a : Word) : (s.jump a).gsr = s.gsr := rfl
@[simp] theorem jump_chrIse (s : State) (a : Word) : (s.jump a).chrIse = s.chrIse := rfl
@[simp] theorem jump_chrIae (s : State) (a : Word) : (s.jump a).chrIae = s.chrIae := rfl
@[simp] theorem jump_ccrMp (s : State) (a : Word) : (s.jump a).ccrMp = s.ccrMp := rfl
@[simp] theorem jump_capr (s : State) (a : Word) : (s.jump a).capr = s.capr := rfl
@[simp] theorem jump_pacr (s : State) (a : Word) : (s.jump a).pacr = s.pacr := rfl
@[simp] theorem jump_prsr (s : State) (a : Word) : (s.jump a).prsr = s.prsr := rfl
@[simp] theorem jump_sgcrSge (s : State) (a : Word) : (s.jump a).sgcrSge = s.sgcrSge := rfl
@[simp] theorem jump_sgcrSgp (s : State) (a : Word) : (s.jump a).sgcrSgp = s.sgcrSgp := rfl
@[simp] theorem jump_sgtr (s : State) (a : Word) : (s.jump a).sgtr = s.sgtr := rfl
@[simp] theorem jump_sgbr (s : State) (a : Word) : (s.jump a).sgbr = s.sgbr := rfl
@[simp] theorem jump_sgistr (s : State) (a : Word) : (s.jump a).sgistr = s.sgistr := rfl
@[simp] theorem jump_sgisbr (s : State) (a : Word) : (s.jump a).sgisbr = s.sgisbr := rfl
@[simp] theorem jump_cer (s : State) (a : Word) : (s.jump a).cer = s.cer := rfl
@[simp] theorem jump_cirWritten (s : State) (a : Word) : (s.jump a).cirWritten = s.cirWritten := rfl
@[simp] theorem jump_crcr (s : State) (a : Word) : (s.jump a).crcr = s.crcr := rfl
@[simp] theorem jump_secr (s : State) (a : Word) : (s.jump a).secr = s.secr := rfl
@[simp] theorem jump_dpPending (s : State) (a : Word) : (s.jump a).dpPending = s.dpPending := rfl
@[simp] theorem jump_hadFdb (s : State) (a : Word) : (s.jump a).hadFdb = s.hadFdb := rfl
@[simp] theorem jump_hadMbee (s : State) (a : Word) : (s.jump a).hadMbee = s.hadMbee := rfl
@[simp] theorem jump_irq (s : State) (a : Word) : (s.jump a).irq = s.irq := rfl
@[simp] theorem jump_run (s : State) (a : Word) : (s.jump a).run = s.run := rfl
@[simp] theorem jump_held (s : State) (a : Word) : (s.jump a).held = s.held := rfl
@[simp] theorem jump_old (s : State) (a : Word) : (s.jump a).old = s.old := rfl
@[simp] theorem jump_mem (s : State) (a : Word) : (s.jump a).mem = s.mem := rfl
@[simp] theorem jump_answers (s : State) (a : Word) : (s.jump a).answers = s.answers := rfl
@[simp] theorem jump_between (s : State) (a : Word) : (s.jump a).between = s.between := rfl
@[simp] theorem jump_resetRequest (s : State) (a : Word) : (s.jump a).resetRequest = s.resetRequest := rfl
@[simp] theorem jump_onReset (s : State) (a : Word) : (s.jump a).onReset = s.onReset := rfl
@[simp] theorem jump_moves (s : State) (a : Word) : (s.jump a).moves = s.moves := rfl
@[simp] theorem jump_free (s : State) (a : Word) : (s.jump a).free = s.free := rfl

/-! ### setReg -/

@[simp] theorem setReg_cfg (s : State) (n : Nat) (v : Word) : (s.setReg n v).cfg = s.cfg := rfl
@[simp] theorem setReg_pc (s : State) (n : Nat) (v : Word) : (s.setReg n v).pc = s.pc := rfl
@[simp] theorem setReg_psr (s : State) (n : Nat) (v : Word) : (s.setReg n v).psr = s.psr := rfl
@[simp] theorem setReg_vbr (s : State) (n : Nat) (v : Word) : (s.setReg n v).vbr = s.vbr := rfl
@[simp] theorem setReg_epsr (s : State) (n : Nat) (v : Word) : (s.setReg n v).epsr = s.epsr := rfl
@[simp] theorem setReg_epc (s : State) (n : Nat) (v : Word) : (s.setReg n v).epc = s.epc := rfl
@[simp] theorem setReg_gcr (s : State) (n : Nat) (v : Word) : (s.setReg n v).gcr = s.gcr := rfl
@[simp] theorem setReg_gsr (s : State) (n : Nat) (v : Word) : (s.setReg n v).gsr = s.gsr := rfl
@[simp] theorem setReg_chrIse (s : State) (n : Nat) (v : Word) : (s.setReg n v).chrIse = s.chrIse := rfl
@[simp] theorem setReg_chrIae (s : State) (n : Nat) (v : Word) : (s.setReg n v).chrIae = s.chrIae := rfl
@[simp] theorem setReg_ccrMp (s : State) (n : Nat) (v : Word) : (s.setReg n v).ccrMp = s.ccrMp := rfl
@[simp] theorem setReg_capr (s : State) (n : Nat) (v : Word) : (s.setReg n v).capr = s.capr := rfl
@[simp] theorem setReg_pacr (s : State) (n : Nat) (v : Word) : (s.setReg n v).pacr = s.pacr := rfl
@[simp] theorem setReg_prsr (s : State) (n : Nat) (v : Word) : (s.setReg n v).prsr = s.prsr := rfl
@[simp] theorem setReg_sgcrSge (s : State) (n : Nat) (v : Word) : (s.setReg n v).sgcrSge = s.sgcrSge := rfl
@[simp] theorem setReg_sgcrSgp (s : State) (n : Nat) (v : Word) : (s.setReg n v).sgcrSgp = s.sgcrSgp := rfl
@[simp] theorem setReg_sgtr (s : State) (n : Nat) (v : Word) : (s.setReg n v).sgtr = s.sgtr := rfl
@[simp] theorem setReg_sgbr (s : State) (n : Nat) (v : Word) : (s.setReg n v).sgbr = s.sgbr := rfl
@[simp] theorem setReg_sgistr (s : State) (n : Nat) (v : Word) : (s.setReg n v).sgistr = s.sgistr := rfl
@[simp] theorem setReg_sgisbr (s : State) (n : Nat) (v : Word) : (s.setReg n v).sgisbr = s.sgisbr := rfl
@[simp] theorem setReg_cer (s : State) (n : Nat) (v : Word) : (s.setReg n v).cer = s.cer := rfl
@[simp] theorem setReg_cirWritten (s : State) (n : Nat) (v : Word) : (s.setReg n v).cirWritten = s.cirWritten := rfl
@[simp] theorem setReg_crcr (s : State) (n : Nat) (v : Word) : (s.setReg n v).crcr = s.crcr := rfl
@[simp] theorem setReg_secr (s : State) (n : Nat) (v : Word) : (s.setReg n v).secr = s.secr := rfl
@[simp] theorem setReg_dpPending (s : State) (n : Nat) (v : Word) : (s.setReg n v).dpPending = s.dpPending := rfl
@[simp] theorem setReg_hadFdb (s : State) (n : Nat) (v : Word) : (s.setReg n v).hadFdb = s.hadFdb := rfl
@[simp] theorem setReg_hadMbee (s : State) (n : Nat) (v : Word) : (s.setReg n v).hadMbee = s.hadMbee := rfl
@[simp] theorem setReg_irq (s : State) (n : Nat) (v : Word) : (s.setReg n v).irq = s.irq := rfl
@[simp] theorem setReg_run (s : State) (n : Nat) (v : Word) : (s.setReg n v).run = s.run := rfl
@[simp] theorem setReg_held (s : State) (n : Nat) (v : Word) : (s.setReg n v).held = s.held := rfl
@[simp] theorem setReg_old (s : State) (n : Nat) (v : Word) : (s.setReg n v).old = s.old := rfl
@[simp] theorem setReg_mem (s : State) (n : Nat) (v : Word) : (s.setReg n v).mem = s.mem := rfl
@[simp] theorem setReg_stale (s : State) (n : Nat) (v : Word) : (s.setReg n v).stale = s.stale := rfl
@[simp] theorem setReg_answers (s : State) (n : Nat) (v : Word) : (s.setReg n v).answers = s.answers := rfl
@[simp] theorem setReg_between (s : State) (n : Nat) (v : Word) : (s.setReg n v).between = s.between := rfl
@[simp] theorem setReg_resetRequest (s : State) (n : Nat) (v : Word) : (s.setReg n v).resetRequest = s.resetRequest := rfl
@[simp] theorem setReg_onReset (s : State) (n : Nat) (v : Word) : (s.setReg n v).onReset = s.onReset := rfl
@[simp] theorem setReg_moves (s : State) (n : Nat) (v : Word) : (s.setReg n v).moves = s.moves := rfl
@[simp] theorem setReg_free (s : State) (n : Nat) (v : Word) : (s.setReg n v).free = s.free := rfl

/-! ### setC -/

@[simp] theorem setC_cfg (s : State) (b : Bool) : (s.setC b).cfg = s.cfg := rfl
@[simp] theorem setC_r (s : State) (b : Bool) : (s.setC b).r = s.r := rfl
@[simp] theorem setC_lr (s : State) (b : Bool) : (s.setC b).lr = s.lr := rfl
@[simp] theorem setC_userSp (s : State) (b : Bool) : (s.setC b).userSp = s.userSp := rfl
@[simp] theorem setC_spvSp (s : State) (b : Bool) : (s.setC b).spvSp = s.spvSp := rfl
@[simp] theorem setC_intSp (s : State) (b : Bool) : (s.setC b).intSp = s.intSp := rfl
@[simp] theorem setC_fpB (s : State) (b : Bool) : (s.setC b).fpB = s.fpB := rfl
@[simp] theorem setC_top (s : State) (b : Bool) : (s.setC b).top = s.top := rfl
@[simp] theorem setC_bsp (s : State) (b : Bool) : (s.setC b).bsp = s.bsp := rfl
@[simp] theorem setC_svbr (s : State) (b : Bool) : (s.setC b).svbr = s.svbr := rfl
@[simp] theorem setC_pc (s : State) (b : Bool) : (s.setC b).pc = s.pc := rfl
@[simp] theorem setC_vbr (s : State) (b : Bool) : (s.setC b).vbr = s.vbr := rfl
@[simp] theorem setC_epsr (s : State) (b : Bool) : (s.setC b).epsr = s.epsr := rfl
@[simp] theorem setC_epc (s : State) (b : Bool) : (s.setC b).epc = s.epc := rfl
@[simp] theorem setC_gcr (s : State) (b : Bool) : (s.setC b).gcr = s.gcr := rfl
@[simp] theorem setC_gsr (s : State) (b : Bool) : (s.setC b).gsr = s.gsr := rfl
@[simp] theorem setC_chrIse (s : State) (b : Bool) : (s.setC b).chrIse = s.chrIse := rfl
@[simp] theorem setC_chrIae (s : State) (b : Bool) : (s.setC b).chrIae = s.chrIae := rfl
@[simp] theorem setC_ccrMp (s : State) (b : Bool) : (s.setC b).ccrMp = s.ccrMp := rfl
@[simp] theorem setC_capr (s : State) (b : Bool) : (s.setC b).capr = s.capr := rfl
@[simp] theorem setC_pacr (s : State) (b : Bool) : (s.setC b).pacr = s.pacr := rfl
@[simp] theorem setC_prsr (s : State) (b : Bool) : (s.setC b).prsr = s.prsr := rfl
@[simp] theorem setC_sgcrSge (s : State) (b : Bool) : (s.setC b).sgcrSge = s.sgcrSge := rfl
@[simp] theorem setC_sgcrSgp (s : State) (b : Bool) : (s.setC b).sgcrSgp = s.sgcrSgp := rfl
@[simp] theorem setC_sgtr (s : State) (b : Bool) : (s.setC b).sgtr = s.sgtr := rfl
@[simp] theorem setC_sgbr (s : State) (b : Bool) : (s.setC b).sgbr = s.sgbr := rfl
@[simp] theorem setC_sgistr (s : State) (b : Bool) : (s.setC b).sgistr = s.sgistr := rfl
@[simp] theorem setC_sgisbr (s : State) (b : Bool) : (s.setC b).sgisbr = s.sgisbr := rfl
@[simp] theorem setC_cer (s : State) (b : Bool) : (s.setC b).cer = s.cer := rfl
@[simp] theorem setC_cirWritten (s : State) (b : Bool) : (s.setC b).cirWritten = s.cirWritten := rfl
@[simp] theorem setC_crcr (s : State) (b : Bool) : (s.setC b).crcr = s.crcr := rfl
@[simp] theorem setC_secr (s : State) (b : Bool) : (s.setC b).secr = s.secr := rfl
@[simp] theorem setC_dpPending (s : State) (b : Bool) : (s.setC b).dpPending = s.dpPending := rfl
@[simp] theorem setC_hadFdb (s : State) (b : Bool) : (s.setC b).hadFdb = s.hadFdb := rfl
@[simp] theorem setC_hadMbee (s : State) (b : Bool) : (s.setC b).hadMbee = s.hadMbee := rfl
@[simp] theorem setC_irq (s : State) (b : Bool) : (s.setC b).irq = s.irq := rfl
@[simp] theorem setC_run (s : State) (b : Bool) : (s.setC b).run = s.run := rfl
@[simp] theorem setC_held (s : State) (b : Bool) : (s.setC b).held = s.held := rfl
@[simp] theorem setC_old (s : State) (b : Bool) : (s.setC b).old = s.old := rfl
@[simp] theorem setC_mem (s : State) (b : Bool) : (s.setC b).mem = s.mem := rfl
@[simp] theorem setC_stale (s : State) (b : Bool) : (s.setC b).stale = s.stale := rfl
@[simp] theorem setC_answers (s : State) (b : Bool) : (s.setC b).answers = s.answers := rfl
@[simp] theorem setC_between (s : State) (b : Bool) : (s.setC b).between = s.between := rfl
@[simp] theorem setC_resetRequest (s : State) (b : Bool) : (s.setC b).resetRequest = s.resetRequest := rfl
@[simp] theorem setC_onReset (s : State) (b : Bool) : (s.setC b).onReset = s.onReset := rfl
@[simp] theorem setC_moves (s : State) (b : Bool) : (s.setC b).moves = s.moves := rfl
@[simp] theorem setC_free (s : State) (b : Bool) : (s.setC b).free = s.free := rfl

/-! ### setBM -/

@[simp] theorem setBM_cfg (s : State) (b : Bool) : (s.setBM b).cfg = s.cfg := rfl
@[simp] theorem setBM_r (s : State) (b : Bool) : (s.setBM b).r = s.r := rfl
@[simp] theorem setBM_lr (s : State) (b : Bool) : (s.setBM b).lr = s.lr := rfl
@[simp] theorem setBM_userSp (s : State) (b : Bool) : (s.setBM b).userSp = s.userSp := rfl
@[simp] theorem setBM_spvSp (s : State) (b : Bool) : (s.setBM b).spvSp = s.spvSp := rfl
@[simp] theorem setBM_intSp (s : State) (b : Bool) : (s.setBM b).intSp = s.intSp := rfl
@[simp] theorem setBM_fpB (s : State) (b : Bool) : (s.setBM b).fpB = s.fpB := rfl
@[simp] theorem setBM_top (s : State) (b : Bool) : (s.setBM b).top = s.top := rfl
@[simp] theorem setBM_bsp (s : State) (b : Bool) : (s.setBM b).bsp = s.bsp := rfl
@[simp] theorem setBM_svbr (s : State) (b : Bool) : (s.setBM b).svbr = s.svbr := rfl
@[simp] theorem setBM_pc (s : State) (b : Bool) : (s.setBM b).pc = s.pc := rfl
@[simp] theorem setBM_vbr (s : State) (b : Bool) : (s.setBM b).vbr = s.vbr := rfl
@[simp] theorem setBM_epsr (s : State) (b : Bool) : (s.setBM b).epsr = s.epsr := rfl
@[simp] theorem setBM_epc (s : State) (b : Bool) : (s.setBM b).epc = s.epc := rfl
@[simp] theorem setBM_gcr (s : State) (b : Bool) : (s.setBM b).gcr = s.gcr := rfl
@[simp] theorem setBM_gsr (s : State) (b : Bool) : (s.setBM b).gsr = s.gsr := rfl
@[simp] theorem setBM_chrIse (s : State) (b : Bool) : (s.setBM b).chrIse = s.chrIse := rfl
@[simp] theorem setBM_chrIae (s : State) (b : Bool) : (s.setBM b).chrIae = s.chrIae := rfl
@[simp] theorem setBM_ccrMp (s : State) (b : Bool) : (s.setBM b).ccrMp = s.ccrMp := rfl
@[simp] theorem setBM_capr (s : State) (b : Bool) : (s.setBM b).capr = s.capr := rfl
@[simp] theorem setBM_pacr (s : State) (b : Bool) : (s.setBM b).pacr = s.pacr := rfl
@[simp] theorem setBM_prsr (s : State) (b : Bool) : (s.setBM b).prsr = s.prsr := rfl
@[simp] theorem setBM_sgcrSge (s : State) (b : Bool) : (s.setBM b).sgcrSge = s.sgcrSge := rfl
@[simp] theorem setBM_sgcrSgp (s : State) (b : Bool) : (s.setBM b).sgcrSgp = s.sgcrSgp := rfl
@[simp] theorem setBM_sgtr (s : State) (b : Bool) : (s.setBM b).sgtr = s.sgtr := rfl
@[simp] theorem setBM_sgbr (s : State) (b : Bool) : (s.setBM b).sgbr = s.sgbr := rfl
@[simp] theorem setBM_sgistr (s : State) (b : Bool) : (s.setBM b).sgistr = s.sgistr := rfl
@[simp] theorem setBM_sgisbr (s : State) (b : Bool) : (s.setBM b).sgisbr = s.sgisbr := rfl
@[simp] theorem setBM_cer (s : State) (b : Bool) : (s.setBM b).cer = s.cer := rfl
@[simp] theorem setBM_cirWritten (s : State) (b : Bool) : (s.setBM b).cirWritten = s.cirWritten := rfl
@[simp] theorem setBM_crcr (s : State) (b : Bool) : (s.setBM b).crcr = s.crcr := rfl
@[simp] theorem setBM_secr (s : State) (b : Bool) : (s.setBM b).secr = s.secr := rfl
@[simp] theorem setBM_dpPending (s : State) (b : Bool) : (s.setBM b).dpPending = s.dpPending := rfl
@[simp] theorem setBM_hadFdb (s : State) (b : Bool) : (s.setBM b).hadFdb = s.hadFdb := rfl
@[simp] theorem setBM_hadMbee (s : State) (b : Bool) : (s.setBM b).hadMbee = s.hadMbee := rfl
@[simp] theorem setBM_irq (s : State) (b : Bool) : (s.setBM b).irq = s.irq := rfl
@[simp] theorem setBM_run (s : State) (b : Bool) : (s.setBM b).run = s.run := rfl
@[simp] theorem setBM_held (s : State) (b : Bool) : (s.setBM b).held = s.held := rfl
@[simp] theorem setBM_old (s : State) (b : Bool) : (s.setBM b).old = s.old := rfl
@[simp] theorem setBM_mem (s : State) (b : Bool) : (s.setBM b).mem = s.mem := rfl
@[simp] theorem setBM_stale (s : State) (b : Bool) : (s.setBM b).stale = s.stale := rfl
@[simp] theorem setBM_answers (s : State) (b : Bool) : (s.setBM b).answers = s.answers := rfl
@[simp] theorem setBM_between (s : State) (b : Bool) : (s.setBM b).between = s.between := rfl
@[simp] theorem setBM_resetRequest (s : State) (b : Bool) : (s.setBM b).resetRequest = s.resetRequest := rfl
@[simp] theorem setBM_onReset (s : State) (b : Bool) : (s.setBM b).onReset = s.onReset := rfl
@[simp] theorem setBM_moves (s : State) (b : Bool) : (s.setBM b).moves = s.moves := rfl
@[simp] theorem setBM_free (s : State) (b : Bool) : (s.setBM b).free = s.free := rfl

/-! ### setPsr -/

@[simp] theorem setPsr_cfg (s : State) (w : Word) : (s.setPsr w).cfg = s.cfg := rfl
@[simp] theorem setPsr_r (s : State) (w : Word) : (s.setPsr w).r = s.r := rfl
@[simp] theorem setPsr_lr (s : State) (w : Word) : (s.setPsr w).lr = s.lr := rfl
@[simp] theorem setPsr_userSp (s : State) (w : Word) : (s.setPsr w).userSp = s.userSp := rfl
@[simp] theorem setPsr_spvSp (s : State) (w : Word) : (s.setPsr w).spvSp = s.spvSp := rfl
@[simp] theorem setPsr_intSp (s : State) (w : Word) : (s.setPsr w).intSp = s.intSp := rfl
@[simp] theorem setPsr_fpB (s : State) (w : Word) : (s.setPsr w).fpB = s.fpB := rfl
@[simp] theorem setPsr_top (s : State) (w : Word) : (s.setPsr w).top = s.top := rfl
@[simp] theorem setPsr_bsp (s : State) (w : Word) : (s.setPsr w).bsp = s.bsp := rfl
@[simp] theorem setPsr_svbr (s : State) (w : Word) : (s.setPsr w).svbr = s.svbr := rfl
@[simp] theorem setPsr_pc (s : State) (w : Word) : (s.setPsr w).pc = s.pc := rfl
@[simp] theorem setPsr_vbr (s : State) (w : Word) : (s.setPsr w).vbr = s.vbr := rfl
@[simp] theorem setPsr_epsr (s : State) (w : Word) : (s.setPsr w).epsr = s.epsr := rfl
@[simp] theorem setPsr_epc (s : State) (w : Word) : (s.setPsr w).epc = s.epc := rfl
@[simp] theorem setPsr_gcr (s : State) (w : Word) : (s.setPsr w).gcr = s.gcr := rfl
@[simp] theorem setPsr_gsr (s : State) (w : Word) : (s.setPsr w).gsr = s.gsr := rfl
@[simp] theorem setPsr_chrIse (s : State) (w : Word) : (s.setPsr w).chrIse = s.chrIse := rfl
@[simp] theorem setPsr_chrIae (s : State) (w : Word) : (s.setPsr w).chrIae = s.chrIae := rfl
@[simp] theorem setPsr_ccrMp (s : State) (w : Word) : (s.setPsr w).ccrMp = s.ccrMp := rfl
@[simp] theorem setPsr_capr (s : State) (w : Word) : (s.setPsr w).capr = s.capr := rfl
@[simp] theorem setPsr_pacr (s : State) (w : Word) : (s.setPsr w).pacr = s.pacr := rfl
@[simp] theorem setPsr_prsr (s : State) (w : Word) : (s.setPsr w).prsr = s.prsr := rfl
@[simp] theorem setPsr_sgcrSge (s : State) (w : Word) : (s.setPsr w).sgcrSge = s.sgcrSge := rfl
@[simp] theorem setPsr_sgcrSgp (s : State) (w : Word) : (s.setPsr w).sgcrSgp = s.sgcrSgp := rfl
@[simp] theorem setPsr_sgtr (s : State) (w : Word) : (s.setPsr w).sgtr = s.sgtr := rfl
@[simp] theorem setPsr_sgbr (s : State) (w : Word) : (s.setPsr w).sgbr = s.sgbr := rfl
@[simp] theorem setPsr_sgistr (s : State) (w : Word) : (s.setPsr w).sgistr = s.sgistr := rfl
@[simp] theorem setPsr_sgisbr (s : State) (w : Word) : (s.setPsr w).sgisbr = s.sgisbr := rfl
@[simp] theorem setPsr_cer (s : State) (w : Word) : (s.setPsr w).cer = s.cer := rfl
@[simp] theorem setPsr_cirWritten (s : State) (w : Word) : (s.setPsr w).cirWritten = s.cirWritten := rfl
@[simp] theorem setPsr_crcr (s : State) (w : Word) : (s.setPsr w).crcr = s.crcr := rfl
@[simp] theorem setPsr_secr (s : State) (w : Word) : (s.setPsr w).secr = s.secr := rfl
@[simp] theorem setPsr_dpPending (s : State) (w : Word) : (s.setPsr w).dpPending = s.dpPending := rfl
@[simp] theorem setPsr_hadFdb (s : State) (w : Word) : (s.setPsr w).hadFdb = s.hadFdb := rfl
@[simp] theorem setPsr_hadMbee (s : State) (w : Word) : (s.setPsr w).hadMbee = s.hadMbee := rfl
@[simp] theorem setPsr_irq (s : State) (w : Word) : (s.setPsr w).irq = s.irq := rfl
@[simp] theorem setPsr_run (s : State) (w : Word) : (s.setPsr w).run = s.run := rfl
@[simp] theorem setPsr_held (s : State) (w : Word) : (s.setPsr w).held = s.held := rfl
@[simp] theorem setPsr_old (s : State) (w : Word) : (s.setPsr w).old = s.old := rfl
@[simp] theorem setPsr_mem (s : State) (w : Word) : (s.setPsr w).mem = s.mem := rfl
@[simp] theorem setPsr_stale (s : State) (w : Word) : (s.setPsr w).stale = s.stale := rfl
@[simp] theorem setPsr_answers (s : State) (w : Word) : (s.setPsr w).answers = s.answers := rfl
@[simp] theorem setPsr_between (s : State) (w : Word) : (s.setPsr w).between = s.between := rfl
@[simp] theorem setPsr_resetRequest (s : State) (w : Word) : (s.setPsr w).resetRequest = s.resetRequest := rfl
@[simp] theorem setPsr_onReset (s : State) (w : Word) : (s.setPsr w).onReset = s.onReset := rfl
@[simp] theorem setPsr_moves (s : State) (w : Word) : (s.setPsr w).moves = s.moves := rfl
@[simp] theorem setPsr_free (s : State) (w : Word) : (s.setPsr w).free = s.free := rfl

/-! ### enter -/

@[simp] theorem enter_cfg (s : State) (vec : BitVec 8) (ret : Word) : (s.enter vec ret).cfg = s.cfg := rfl
@[simp] theorem enter_r (s : State) (vec : BitVec 8) (ret : Word) : (s.enter vec ret).r = s.r := rfl
@[simp] theorem enter_lr (s : State) (vec : BitVec 8) (ret : Word) : (s.enter vec ret).lr = s.lr := rfl
@[simp] theorem enter_userSp (s : State) (vec : BitVec 8) (ret : Word) : (s.enter vec ret).userSp = s.userSp := rfl
@[simp] theorem enter_spvSp (s : State) (vec : BitVec 8) (ret : Word) : (s.enter vec ret).spvSp = s.spvSp := rfl
@[simp] theorem enter_intSp (s : State) (vec : BitVec 8) (ret : Word) : (s.enter vec ret).intSp = s.intSp := rfl
@[simp] theorem enter_fpB (s : State) (vec : BitVec 8) (ret : Word) : (s.enter vec ret).fpB = s.fpB := rfl
@[simp] theorem enter_top (s : State) (vec : BitVec 8) (ret : Word) : (s.enter vec ret).top = s.top := rfl
@[simp] theorem enter_bsp (s : State) (vec : BitVec 8) (ret : Word) : (s.enter vec ret).bsp = s.bsp := rfl
@[simp] theorem enter_svbr (s : State) (vec : BitVec 8) (ret : Word) : (s.enter vec ret).svbr = s.svbr := rfl
@[simp] theorem enter_pc (s : State) (vec : BitVec 8) (ret : Word) : (s.enter vec ret).pc = s.pc := rfl
@[simp] theorem enter_vbr (s : State) (vec : BitVec 8) (ret : Word) : (s.enter vec ret).vbr = s.vbr := rfl
@[simp] theorem enter_gcr (s : State) (vec : BitVec 8) (ret : Word) : (s.enter vec ret).gcr = s.gcr := rfl
@[simp] theorem enter_gsr (s : State) (vec : BitVec 8) (ret : Word) : (s.enter vec ret).gsr = s.gsr := rfl
@[simp] theorem enter_chrIse (s : State) (vec : BitVec 8) (ret : Word) : (s.enter vec ret).chrIse = s.chrIse := rfl
@[simp] theorem enter_chrIae (s : State) (vec : BitVec 8) (ret : Word) : (s.enter vec ret).chrIae = s.chrIae := rfl
@[simp] theorem enter_ccrMp (s : State) (vec : BitVec 8) (ret : Word) : (s.enter vec ret).ccrMp = s.ccrMp := rfl
@[simp] theorem enter_capr (s : State) (vec : BitVec 8) (ret : Word) : (s.enter vec ret).capr = s.capr := rfl
@[simp] theorem enter_pacr (s : State) (vec : BitVec 8) (ret : Word) : (s.enter vec ret).pacr = s.pacr := rfl
@[simp] theorem enter_prsr (s : State) (vec : BitVec 8) (ret : Word) : (s.enter vec ret).prsr = s.prsr := rfl
@[simp] theorem enter_sgcrSge (s : State) (vec : BitVec 8) (ret : Word) : (s.enter vec ret).sgcrSge = s.sgcrSge := rfl
@[simp] theorem enter_sgcrSgp (s : State) (vec : BitVec 8) (ret : Word) : (s.enter vec ret).sgcrSgp = s.sgcrSgp := rfl
@[simp] theorem enter_sgtr (s : State) (vec : BitVec 8) (ret : Word) : (s.enter vec ret).sgtr = s.sgtr := rfl
@[simp] theorem enter_sgbr (s : State) (vec : BitVec 8) (ret : Word) : (s.enter vec ret).sgbr = s.sgbr := rfl
@[simp] theorem enter_sgistr (s : State) (vec : BitVec 8) (ret : Word) : (s.enter vec ret).sgistr = s.sgistr := rfl
@[simp] theorem enter_sgisbr (s : State) (vec : BitVec 8) (ret : Word) : (s.enter vec ret).sgisbr = s.sgisbr := rfl
@[simp] theorem enter_cer (s : State) (vec : BitVec 8) (ret : Word) : (s.enter vec ret).cer = s.cer := rfl
@[simp] theorem enter_cirWritten (s : State) (vec : BitVec 8) (ret : Word) : (s.enter vec ret).cirWritten = s.cirWritten := rfl
@[simp] theorem enter_crcr (s : State) (vec : BitVec 8) (ret : Word) : (s.enter vec ret).crcr = s.crcr := rfl
@[simp] theorem enter_secr (s : State) (vec : BitVec 8) (ret : Word) : (s.enter vec ret).secr = s.secr := rfl
@[simp] theorem enter_dpPending (s : State) (vec : BitVec 8) (ret : Word) : (s.enter vec ret).dpPending = s.dpPending := rfl
@[simp] theorem enter_hadFdb (s : State) (vec : BitVec 8) (ret : Word) : (s.enter vec ret).hadFdb = s.hadFdb := rfl
@[simp] theorem enter_hadMbee (s : State) (vec : BitVec 8) (ret : Word) : (s.enter vec ret).hadMbee = s.hadMbee := rfl
@[simp] theorem enter_irq (s : State) (vec : BitVec 8) (ret : Word) : (s.enter vec ret).irq = s.irq := rfl
@[simp] theorem enter_run (s : State) (vec : BitVec 8) (ret : Word) : (s.enter vec ret).run = s.run := rfl
@[simp] theorem enter_held (s : State) (vec : BitVec 8) (ret : Word) : (s.enter vec ret).held = s.held := rfl
@[simp] theorem enter_old (s : State) (vec : BitVec 8) (ret : Word) : (s.enter vec ret).old = s.old := rfl
@[simp] theorem enter_mem (s : State) (vec : BitVec 8) (ret : Word) : (s.enter vec ret).mem = s.mem := rfl
@[simp] theorem enter_stale (s : State) (vec : BitVec 8) (ret : Word) : (s.enter vec ret).stale = s.stale := rfl
@[simp] theorem enter_answers (s : State) (vec : BitVec 8) (ret : Word) : (s.enter vec ret).answers = s.answers := rfl
@[simp] theorem enter_between (s : State) (vec : BitVec 8) (ret : Word) : (s.enter vec ret).between = s.between := rfl
@[simp] theorem enter_resetRequest (s : State) (vec : BitVec 8) (ret : Word) : (s.enter vec ret).resetRequest = s.resetRequest := rfl
@[simp] theorem enter_onReset (s : State) (vec : BitVec 8) (ret : Word) : (s.enter vec ret).onReset = s.onReset := rfl
@[simp] theorem enter_moves (s : State) (vec : BitVec 8) (ret : Word) : (s.enter vec ret).moves = s.moves := rfl
@[simp] theorem enter_free (s : State) (vec : BitVec 8) (ret : Word) : (s.enter vec ret).free = s.free := rfl

/-! ### returnFromException -/

@[simp] theorem returnFromException_cfg (s : State) : (s.returnFromException).cfg = s.cfg := rfl
@[simp] theorem returnFromException_r (s : State) : (s.returnFromException).r = s.r := rfl
@[simp] theorem returnFromException_lr (s : State) : (s.returnFromException).lr = s.lr := rfl
@[simp] theorem returnFromException_userSp (s : State) : (s.returnFromException).userSp = s.userSp := rfl
@[simp] theorem returnFromException_spvSp (s : State) : (s.returnFromException).spvSp = s.spvSp := rfl
@[simp] theorem returnFromException_intSp (s : State) : (s.returnFromException).intSp = s.intSp := rfl
@[simp] theorem returnFromException_fpB (s : State) : (s.returnFromException).fpB = s.fpB := rfl
@[simp] theorem returnFromException_top (s : State) : (s.returnFromException).top = s.top := rfl
@[simp] theorem returnFromException_bsp (s : State) : (s.returnFromException).bsp = s.bsp := rfl
@[simp] theorem returnFromException_svbr (s : State) : (s.returnFromException).svbr = s.svbr := rfl
@[simp] theorem returnFromException_vbr (s : State) : (s.returnFromException).vbr = s.vbr := rfl
@[simp] theorem returnFromException_epsr (s : State) : (s.returnFromException).epsr = s.epsr := rfl
@[simp] theorem returnFromException_epc (s : State) : (s.returnFromException).epc = s.epc := rfl
@[simp] theorem returnFromException_gcr (s : State) : (s.returnFromException).gcr = s.gcr := rfl
@[simp] theorem returnFromException_gsr (s : State) : (s.returnFromException).gsr = s.gsr := rfl
@[simp] theorem returnFromException_chrIse (s : State) : (s.returnFromException).chrIse = s.chrIse := rfl
@[simp] theorem returnFromException_chrIae (s : State) : (s.returnFromException).chrIae = s.chrIae := rfl
@[simp] theorem returnFromException_ccrMp (s : State) : (s.returnFromException).ccrMp = s.ccrMp := rfl
@[simp] theorem returnFromException_capr (s : State) : (s.returnFromException).capr = s.capr := rfl
@[simp] theorem returnFromException_pacr (s : State) : (s.returnFromException).pacr = s.pacr := rfl
@[simp] theorem returnFromException_prsr (s : State) : (s.returnFromException).prsr = s.prsr := rfl
@[simp] theorem returnFromException_sgcrSge (s : State) : (s.returnFromException).sgcrSge = s.sgcrSge := rfl
@[simp] theorem returnFromException_sgcrSgp (s : State) : (s.returnFromException).sgcrSgp = s.sgcrSgp := rfl
@[simp] theorem returnFromException_sgtr (s : State) : (s.returnFromException).sgtr = s.sgtr := rfl
@[simp] theorem returnFromException_sgbr (s : State) : (s.returnFromException).sgbr = s.sgbr := rfl
@[simp] theorem returnFromException_sgistr (s : State) : (s.returnFromException).sgistr = s.sgistr := rfl
@[simp] theorem returnFromException_sgisbr (s : State) : (s.returnFromException).sgisbr = s.sgisbr := rfl
@[simp] theorem returnFromException_cer (s : State) : (s.returnFromException).cer = s.cer := rfl
@[simp] theorem returnFromException_cirWritten (s : State) : (s.returnFromException).cirWritten = s.cirWritten := rfl
@[simp] theorem returnFromException_crcr (s : State) : (s.returnFromException).crcr = s.crcr := rfl
@[simp] theorem returnFromException_secr (s : State) : (s.returnFromException).secr = s.secr := rfl
@[simp] theorem returnFromException_dpPending (s : State) : (s.returnFromException).dpPending = s.dpPending := rfl
@[simp] theorem returnFromException_hadFdb (s : State) : (s.returnFromException).hadFdb = s.hadFdb := rfl
@[simp] theorem returnFromException_hadMbee (s : State) : (s.returnFromException).hadMbee = s.hadMbee := rfl
@[simp] theorem returnFromException_irq (s : State) : (s.returnFromException).irq = s.irq := rfl
@[simp] theorem returnFromException_run (s : State) : (s.returnFromException).run = s.run := rfl
@[simp] theorem returnFromException_held (s : State) : (s.returnFromException).held = s.held := rfl
@[simp] theorem returnFromException_old (s : State) : (s.returnFromException).old = s.old := rfl
@[simp] theorem returnFromException_mem (s : State) : (s.returnFromException).mem = s.mem := rfl
@[simp] theorem returnFromException_answers (s : State) : (s.returnFromException).answers = s.answers := rfl
@[simp] theorem returnFromException_between (s : State) : (s.returnFromException).between = s.between := rfl
@[simp] theorem returnFromException_resetRequest (s : State) : (s.returnFromException).resetRequest = s.resetRequest := rfl
@[simp] theorem returnFromException_onReset (s : State) : (s.returnFromException).onReset = s.onReset := rfl
@[simp] theorem returnFromException_moves (s : State) : (s.returnFromException).moves = s.moves := rfl
@[simp] theorem returnFromException_free (s : State) : (s.returnFromException).free = s.free := rfl

/-! ### tick -/

@[simp] theorem tick_cfg (s : State) : (s.tick).cfg = s.cfg := rfl
@[simp] theorem tick_r (s : State) : (s.tick).r = s.r := rfl
@[simp] theorem tick_lr (s : State) : (s.tick).lr = s.lr := rfl
@[simp] theorem tick_userSp (s : State) : (s.tick).userSp = s.userSp := rfl
@[simp] theorem tick_spvSp (s : State) : (s.tick).spvSp = s.spvSp := rfl
@[simp] theorem tick_intSp (s : State) : (s.tick).intSp = s.intSp := rfl
@[simp] theorem tick_fpB (s : State) : (s.tick).fpB = s.fpB := rfl
@[simp] theorem tick_top (s : State) : (s.tick).top = s.top := rfl
@[simp] theorem tick_bsp (s : State) : (s.tick).bsp = s.bsp := rfl
@[simp] theorem tick_svbr (s : State) : (s.tick).svbr = s.svbr := rfl
@[simp] theorem tick_pc (s : State) : (s.tick).pc = s.pc := rfl
@[simp] theorem tick_psr (s : State) : (s.tick).psr = s.psr := rfl
@[simp] theorem tick_vbr (s : State) : (s.tick).vbr = s.vbr := rfl
@[simp] theorem tick_epsr (s : State) : (s.tick).epsr = s.epsr := rfl
@[simp] theorem tick_epc (s : State) : (s.tick).epc = s.epc := rfl
@[simp] theorem tick_gcr (s : State) : (s.tick).gcr = s.gcr := rfl
@[simp] theorem tick_gsr (s : State) : (s.tick).gsr = s.gsr := rfl
@[simp] theorem tick_chrIse (s : State) : (s.tick).chrIse = s.chrIse := rfl
@[simp] theorem tick_chrIae (s : State) : (s.tick).chrIae = s.chrIae := rfl
@[simp] theorem tick_ccrMp (s : State) : (s.tick).ccrMp = s.ccrMp := rfl
@[simp] theorem tick_capr (s : State) : (s.tick).capr = s.capr := rfl
@[simp] theorem tick_pacr (s : State) : (s.tick).pacr = s.pacr := rfl
@[simp] theorem tick_prsr (s : State) : (s.tick).prsr = s.prsr := rfl
@[simp] theorem tick_sgcrSge (s : State) : (s.tick).sgcrSge = s.sgcrSge := rfl
@[simp] theorem tick_sgcrSgp (s : State) : (s.tick).sgcrSgp = s.sgcrSgp := rfl
@[simp] theorem tick_sgtr (s : State) : (s.tick).sgtr = s.sgtr := rfl
@[simp] theorem tick_sgbr (s : State) : (s.tick).sgbr = s.sgbr := rfl
@[simp] theorem tick_sgistr (s : State) : (s.tick).sgistr = s.sgistr := rfl
@[simp] theorem tick_sgisbr (s : State) : (s.tick).sgisbr = s.sgisbr := rfl
@[simp] theorem tick_cer (s : State) : (s.tick).cer = s.cer := rfl
@[simp] theorem tick_cirWritten (s : State) : (s.tick).cirWritten = s.cirWritten := rfl
@[simp] theorem tick_crcr (s : State) : (s.tick).crcr = s.crcr := rfl
@[simp] theorem tick_secr (s : State) : (s.tick).secr = s.secr := rfl
@[simp] theorem tick_dpPending (s : State) : (s.tick).dpPending = s.dpPending := rfl
@[simp] theorem tick_hadFdb (s : State) : (s.tick).hadFdb = s.hadFdb := rfl
@[simp] theorem tick_hadMbee (s : State) : (s.tick).hadMbee = s.hadMbee := rfl
@[simp] theorem tick_irq (s : State) : (s.tick).irq = s.irq := rfl
@[simp] theorem tick_run (s : State) : (s.tick).run = s.run := rfl
@[simp] theorem tick_held (s : State) : (s.tick).held = s.held := rfl
@[simp] theorem tick_old (s : State) : (s.tick).old = s.old := rfl
@[simp] theorem tick_mem (s : State) : (s.tick).mem = s.mem := rfl
@[simp] theorem tick_stale (s : State) : (s.tick).stale = s.stale := rfl
@[simp] theorem tick_answers (s : State) : (s.tick).answers = s.answers := rfl
@[simp] theorem tick_between (s : State) : (s.tick).between = s.between := rfl
@[simp] theorem tick_onReset (s : State) : (s.tick).onReset = s.onReset := rfl
@[simp] theorem tick_moves (s : State) : (s.tick).moves = s.moves := rfl

/-! ### markStale -/

@[simp] theorem markStale_cfg (s : State) (a : Word) (n : Nat) : (s.markStale a n).cfg = s.cfg := rfl
@[simp] theorem markStale_r (s : State) (a : Word) (n : Nat) : (s.markStale a n).r = s.r := rfl
@[simp] theorem markStale_lr (s : State) (a : Word) (n : Nat) : (s.markStale a n).lr = s.lr := rfl
@[simp] theorem markStale_userSp (s : State) (a : Word) (n : Nat) : (s.markStale a n).userSp = s.userSp := rfl
@[simp] theorem markStale_spvSp (s : State) (a : Word) (n : Nat) : (s.markStale a n).spvSp = s.spvSp := rfl
@[simp] theorem markStale_intSp (s : State) (a : Word) (n : Nat) : (s.markStale a n).intSp = s.intSp := rfl
@[simp] theorem markStale_fpB (s : State) (a : Word) (n : Nat) : (s.markStale a n).fpB = s.fpB := rfl
@[simp] theorem markStale_top (s : State) (a : Word) (n : Nat) : (s.markStale a n).top = s.top := rfl
@[simp] theorem markStale_bsp (s : State) (a : Word) (n : Nat) : (s.markStale a n).bsp = s.bsp := rfl
@[simp] theorem markStale_svbr (s : State) (a : Word) (n : Nat) : (s.markStale a n).svbr = s.svbr := rfl
@[simp] theorem markStale_pc (s : State) (a : Word) (n : Nat) : (s.markStale a n).pc = s.pc := rfl
@[simp] theorem markStale_psr (s : State) (a : Word) (n : Nat) : (s.markStale a n).psr = s.psr := rfl
@[simp] theorem markStale_vbr (s : State) (a : Word) (n : Nat) : (s.markStale a n).vbr = s.vbr := rfl
@[simp] theorem markStale_epsr (s : State) (a : Word) (n : Nat) : (s.markStale a n).epsr = s.epsr := rfl
@[simp] theorem markStale_epc (s : State) (a : Word) (n : Nat) : (s.markStale a n).epc = s.epc := rfl
@[simp] theorem markStale_gcr (s : State) (a : Word) (n : Nat) : (s.markStale a n).gcr = s.gcr := rfl
@[simp] theorem markStale_gsr (s : State) (a : Word) (n : Nat) : (s.markStale a n).gsr = s.gsr := rfl
@[simp] theorem markStale_chrIse (s : State) (a : Word) (n : Nat) : (s.markStale a n).chrIse = s.chrIse := rfl
@[simp] theorem markStale_chrIae (s : State) (a : Word) (n : Nat) : (s.markStale a n).chrIae = s.chrIae := rfl
@[simp] theorem markStale_ccrMp (s : State) (a : Word) (n : Nat) : (s.markStale a n).ccrMp = s.ccrMp := rfl
@[simp] theorem markStale_capr (s : State) (a : Word) (n : Nat) : (s.markStale a n).capr = s.capr := rfl
@[simp] theorem markStale_pacr (s : State) (a : Word) (n : Nat) : (s.markStale a n).pacr = s.pacr := rfl
@[simp] theorem markStale_prsr (s : State) (a : Word) (n : Nat) : (s.markStale a n).prsr = s.prsr := rfl
@[simp] theorem markStale_sgcrSge (s : State) (a : Word) (n : Nat) : (s.markStale a n).sgcrSge = s.sgcrSge := rfl
@[simp] theorem markStale_sgcrSgp (s : State) (a : Word) (n : Nat) : (s.markStale a n).sgcrSgp = s.sgcrSgp := rfl
@[simp] theorem markStale_sgtr (s : State) (a : Word) (n : Nat) : (s.markStale a n).sgtr = s.sgtr := rfl
@[simp] theorem markStale_sgbr (s : State) (a : Word) (n : Nat) : (s.markStale a n).sgbr = s.sgbr := rfl
@[simp] theorem markStale_sgistr (s : State) (a : Word) (n : Nat) : (s.markStale a n).sgistr = s.sgistr := rfl
@[simp] theorem markStale_sgisbr (s : State) (a : Word) (n : Nat) : (s.markStale a n).sgisbr = s.sgisbr := rfl
@[simp] theorem markStale_cer (s : State) (a : Word) (n : Nat) : (s.markStale a n).cer = s.cer := rfl
@[simp] theorem markStale_cirWritten (s : State) (a : Word) (n : Nat) : (s.markStale a n).cirWritten = s.cirWritten := rfl
@[simp] theorem markStale_crcr (s : State) (a : Word) (n : Nat) : (s.markStale a n).crcr = s.crcr := rfl
@[simp] theorem markStale_secr (s : State) (a : Word) (n : Nat) : (s.markStale a n).secr = s.secr := rfl
@[simp] theorem markStale_dpPending (s : State) (a : Word) (n : Nat) : (s.markStale a n).dpPending = s.dpPending := rfl
@[simp] theorem markStale_hadFdb (s : State) (a : Word) (n : Nat) : (s.markStale a n).hadFdb = s.hadFdb := rfl
@[simp] theorem markStale_hadMbee (s : State) (a : Word) (n : Nat) : (s.markStale a n).hadMbee = s.hadMbee := rfl
@[simp] theorem markStale_irq (s : State) (a : Word) (n : Nat) : (s.markStale a n).irq = s.irq := rfl
@[simp] theorem markStale_run (s : State) (a : Word) (n : Nat) : (s.markStale a n).run = s.run := rfl
@[simp] theorem markStale_held (s : State) (a : Word) (n : Nat) : (s.markStale a n).held = s.held := rfl
@[simp] theorem markStale_old (s : State) (a : Word) (n : Nat) : (s.markStale a n).old = s.old := rfl
@[simp] theorem markStale_mem (s : State) (a : Word) (n : Nat) : (s.markStale a n).mem = s.mem := rfl
@[simp] theorem markStale_answers (s : State) (a : Word) (n : Nat) : (s.markStale a n).answers = s.answers := rfl
@[simp] theorem markStale_between (s : State) (a : Word) (n : Nat) : (s.markStale a n).between = s.between := rfl
@[simp] theorem markStale_resetRequest (s : State) (a : Word) (n : Nat) : (s.markStale a n).resetRequest = s.resetRequest := rfl
@[simp] theorem markStale_onReset (s : State) (a : Word) (n : Nat) : (s.markStale a n).onReset = s.onReset := rfl
@[simp] theorem markStale_moves (s : State) (a : Word) (n : Nat) : (s.markStale a n).moves = s.moves := rfl
@[simp] theorem markStale_free (s : State) (a : Word) (n : Nat) : (s.markStale a n).free = s.free := rfl

/-! ### renew -/

@[simp] theorem renew_cfg (s : State) (x : Span) : (s.renew x).cfg = s.cfg := rfl
@[simp] theorem renew_r (s : State) (x : Span) : (s.renew x).r = s.r := rfl
@[simp] theorem renew_lr (s : State) (x : Span) : (s.renew x).lr = s.lr := rfl
@[simp] theorem renew_userSp (s : State) (x : Span) : (s.renew x).userSp = s.userSp := rfl
@[simp] theorem renew_spvSp (s : State) (x : Span) : (s.renew x).spvSp = s.spvSp := rfl
@[simp] theorem renew_intSp (s : State) (x : Span) : (s.renew x).intSp = s.intSp := rfl
@[simp] theorem renew_fpB (s : State) (x : Span) : (s.renew x).fpB = s.fpB := rfl
@[simp] theorem renew_top (s : State) (x : Span) : (s.renew x).top = s.top := rfl
@[simp] theorem renew_bsp (s : State) (x : Span) : (s.renew x).bsp = s.bsp := rfl
@[simp] theorem renew_svbr (s : State) (x : Span) : (s.renew x).svbr = s.svbr := rfl
@[simp] theorem renew_pc (s : State) (x : Span) : (s.renew x).pc = s.pc := rfl
@[simp] theorem renew_psr (s : State) (x : Span) : (s.renew x).psr = s.psr := rfl
@[simp] theorem renew_vbr (s : State) (x : Span) : (s.renew x).vbr = s.vbr := rfl
@[simp] theorem renew_epsr (s : State) (x : Span) : (s.renew x).epsr = s.epsr := rfl
@[simp] theorem renew_epc (s : State) (x : Span) : (s.renew x).epc = s.epc := rfl
@[simp] theorem renew_gcr (s : State) (x : Span) : (s.renew x).gcr = s.gcr := rfl
@[simp] theorem renew_gsr (s : State) (x : Span) : (s.renew x).gsr = s.gsr := rfl
@[simp] theorem renew_chrIse (s : State) (x : Span) : (s.renew x).chrIse = s.chrIse := rfl
@[simp] theorem renew_chrIae (s : State) (x : Span) : (s.renew x).chrIae = s.chrIae := rfl
@[simp] theorem renew_ccrMp (s : State) (x : Span) : (s.renew x).ccrMp = s.ccrMp := rfl
@[simp] theorem renew_capr (s : State) (x : Span) : (s.renew x).capr = s.capr := rfl
@[simp] theorem renew_pacr (s : State) (x : Span) : (s.renew x).pacr = s.pacr := rfl
@[simp] theorem renew_prsr (s : State) (x : Span) : (s.renew x).prsr = s.prsr := rfl
@[simp] theorem renew_sgcrSge (s : State) (x : Span) : (s.renew x).sgcrSge = s.sgcrSge := rfl
@[simp] theorem renew_sgcrSgp (s : State) (x : Span) : (s.renew x).sgcrSgp = s.sgcrSgp := rfl
@[simp] theorem renew_sgtr (s : State) (x : Span) : (s.renew x).sgtr = s.sgtr := rfl
@[simp] theorem renew_sgbr (s : State) (x : Span) : (s.renew x).sgbr = s.sgbr := rfl
@[simp] theorem renew_sgistr (s : State) (x : Span) : (s.renew x).sgistr = s.sgistr := rfl
@[simp] theorem renew_sgisbr (s : State) (x : Span) : (s.renew x).sgisbr = s.sgisbr := rfl
@[simp] theorem renew_cer (s : State) (x : Span) : (s.renew x).cer = s.cer := rfl
@[simp] theorem renew_cirWritten (s : State) (x : Span) : (s.renew x).cirWritten = s.cirWritten := rfl
@[simp] theorem renew_crcr (s : State) (x : Span) : (s.renew x).crcr = s.crcr := rfl
@[simp] theorem renew_secr (s : State) (x : Span) : (s.renew x).secr = s.secr := rfl
@[simp] theorem renew_dpPending (s : State) (x : Span) : (s.renew x).dpPending = s.dpPending := rfl
@[simp] theorem renew_hadFdb (s : State) (x : Span) : (s.renew x).hadFdb = s.hadFdb := rfl
@[simp] theorem renew_hadMbee (s : State) (x : Span) : (s.renew x).hadMbee = s.hadMbee := rfl
@[simp] theorem renew_irq (s : State) (x : Span) : (s.renew x).irq = s.irq := rfl
@[simp] theorem renew_run (s : State) (x : Span) : (s.renew x).run = s.run := rfl
@[simp] theorem renew_held (s : State) (x : Span) : (s.renew x).held = s.held := rfl
@[simp] theorem renew_mem (s : State) (x : Span) : (s.renew x).mem = s.mem := rfl
@[simp] theorem renew_stale (s : State) (x : Span) : (s.renew x).stale = s.stale := rfl
@[simp] theorem renew_answers (s : State) (x : Span) : (s.renew x).answers = s.answers := rfl
@[simp] theorem renew_between (s : State) (x : Span) : (s.renew x).between = s.between := rfl
@[simp] theorem renew_resetRequest (s : State) (x : Span) : (s.renew x).resetRequest = s.resetRequest := rfl
@[simp] theorem renew_onReset (s : State) (x : Span) : (s.renew x).onReset = s.onReset := rfl
@[simp] theorem renew_moves (s : State) (x : Span) : (s.renew x).moves = s.moves := rfl
@[simp] theorem renew_free (s : State) (x : Span) : (s.renew x).free = s.free := rfl

/-! ### What the updates write -/

@[simp] theorem advance_pc (s : State) (len : Nat) : (s.advance len).pc = s.pc + BitVec.ofNat 32 len := rfl
@[simp] theorem jump_pc (s : State) (a : Word) : (s.jump a).pc = evenAddr a := rfl
@[simp] theorem setC_psr (s : State) (b : Bool) : (s.setC b).psr = psrWithC s.psr b := rfl
@[simp] theorem setBM_psr (s : State) (b : Bool) : (s.setBM b).psr = setBit s.psr 2 b := rfl
@[simp] theorem setPsr_psr (s : State) (w : Word) : (s.setPsr w).psr = w &&& psrMask s.cfg := rfl
@[simp] theorem enter_psr (s : State) (vec : BitVec 8) (ret : Word) :
    (s.enter vec ret).psr = psrEnter s.psr vec := rfl
@[simp] theorem enter_epsr (s : State) (vec : BitVec 8) (ret : Word) : (s.enter vec ret).epsr = s.psr := rfl
@[simp] theorem enter_epc (s : State) (vec : BitVec 8) (ret : Word) : (s.enter vec ret).epc = ret := rfl
@[simp] theorem returnFromException_psr (s : State) :
    s.returnFromException.psr = s.epsr &&& psrMask s.cfg := rfl
@[simp] theorem returnFromException_pc (s : State) : s.returnFromException.pc = evenAddr s.epc := rfl
@[simp] theorem tick_free (s : State) : s.tick.free = s.free + 1 := rfl
@[simp] theorem tick_resetRequest (s : State) : s.tick.resetRequest = false := rfl

end Sys2Proof.Machine
end

