-- ==== Sys2Proof/Laws/Registers.lean ====
section
/-! SUPPORT. The general registers after each update: a register just written reads what was written, and no other
changes. -/

namespace Sys2Proof.Machine

/-! ### The bank of R14 -/

@[simp] theorem getLsbD_psrWithC (p : Word) (b : Bool) (k : Nat) (hk : 0 < k) :
    (psrWithC p b).getLsbD k = p.getLsbD k := by
  have h1 : (1#32).getLsbD k = false := by
    rcases k with _ | k
    · omega
    · simp [BitVec.getLsbD_one]
  cases b
  · simp only [psrWithC, setBit, Bool.false_eq_true, if_false, BitVec.shiftLeft_zero, BitVec.getLsbD_and,
      BitVec.getLsbD_not, h1]
    by_cases hk32 : k < 32
    · simp [hk32]
    · simp [BitVec.getLsbD_of_ge p k (by omega)]
  · simp [psrWithC, setBit, h1]

@[simp] theorem psrWithC_zero (p : Word) (b : Bool) : (psrWithC p b).getLsbD 0 = b := by
  cases b <;> simp [psrWithC, setBit]

theorem psrWithC_vec (p : Word) (b : Bool) :
    (psrWithC p b).extractLsb' 16 8 = p.extractLsb' 16 8 := by
  ext i hi
  simp [getLsbD_psrWithC p b (16 + i) (by omega)]

@[simp] theorem setReg_bank14 (s : State) (n : Nat) (v : Word) : (s.setReg n v).bank14 = s.bank14 := rfl
@[simp] theorem advance_bank14 (s : State) (len : Nat) : (s.advance len).bank14 = s.bank14 := rfl
@[simp] theorem jump_bank14 (s : State) (a : Word) : (s.jump a).bank14 = s.bank14 := rfl
@[simp] theorem markStale_bank14 (s : State) (a : Word) (n : Nat) : (s.markStale a n).bank14 = s.bank14 := rfl

@[simp] theorem setC_bank14 (s : State) (b : Bool) : (s.setC b).bank14 = s.bank14 := by
  unfold State.bank14 State.psrS State.psrVec
  simp only [setC_psr, psrWithC_vec, setC_cfg, setC_chrIse, getLsbD_psrWithC s.psr b 31 (by omega)]

/-! ### Reading a register -/

@[simp] theorem advance_reg (s : State) (len n : Nat) : (s.advance len).reg n = s.reg n := rfl
@[simp] theorem jump_reg (s : State) (a : Word) (n : Nat) : (s.jump a).reg n = s.reg n := rfl
@[simp] theorem markStale_reg (s : State) (a : Word) (k n : Nat) : (s.markStale a k).reg n = s.reg n := rfl

@[simp] theorem setC_reg (s : State) (b : Bool) (n : Nat) : (s.setC b).reg n = s.reg n := by
  simp [State.reg, State.sp]

@[simp] theorem setReg_hasReg (s : State) (n : Nat) (v : Word) (k : Nat) :
    (s.setReg n v).hasReg k = s.hasReg k := rfl

/-- A register that exists reads what was written to it. -/
theorem reg_setReg_same (s : State) (n : Nat) (v : Word) (h : s.hasReg n = true) : (s.setReg n v).reg n = v := by
  simp only [State.hasReg, Bool.or_eq_true, decide_eq_true_eq, Bool.and_eq_true, beq_iff_eq] at h
  by_cases h14 : n < 14
  · simp [State.reg, State.setReg, h14]
  · by_cases e : n = 14
    · subst e
      simp only [State.reg, State.sp, setReg_bank14]
      cases hb : s.bank14 <;> simp [State.setReg, hb]
    · rcases h with h | ⟨_, ((rfl | rfl) | rfl) | rfl⟩
      · have : n = 15 := by omega
        simp [State.reg, State.setReg, this]
      all_goals simp [State.reg, State.setReg]

/-- Every other register is unchanged. -/
theorem reg_setReg_other (s : State) (n k : Nat) (v : Word) (h : k ≠ n) : (s.setReg n v).reg k = s.reg k := by
  by_cases hk : k < 14
  · simp [State.reg, State.setReg, hk, h.symm]
  · by_cases e : k = 14
    · subst e
      simp only [State.reg, State.sp, setReg_bank14]
      cases hb : s.bank14 <;> simp [State.setReg, h.symm]
    · simp only [State.reg, hk, dif_neg, not_false_iff, if_neg e]
      by_cases e15 : k = 15
      · subst e15; simp [State.setReg, h.symm]
      by_cases e23 : k = 23
      · subst e23; simp [State.setReg, h.symm]
      by_cases e24 : k = 24
      · subst e24; simp [State.setReg, h.symm]
      by_cases e25 : k = 25
      · subst e25; simp [State.setReg, h.symm]
      by_cases e30 : k = 30
      · subst e30; simp [State.setReg, h.symm]
      simp [e15, e23, e24, e25, e30]

/-- The banks of R14 that it does not name are unchanged. -/
theorem setReg_otherBanks (s : State) (n : Nat) (v : Word) :
    (s.bank14 ≠ .user → (s.setReg n v).userSp = s.userSp)
      ∧ (s.bank14 ≠ .supervisor → (s.setReg n v).spvSp = s.spvSp)
      ∧ (s.bank14 ≠ .interrupt → (s.setReg n v).intSp = s.intSp) := by
  refine ⟨?_, ?_, ?_⟩ <;> intro h <;> simp [State.setReg, h]

end Sys2Proof.Machine
end

