-- ==== Sys2Proof/Laws/Ops.lean ====
section
/-! SUPPORT. For each shared operation, once, everything it can do. -/

namespace Sys2Proof.Machine

/-! ### The checks -/

theorem withRegs_of_all (s : State) (regs : List Nat) (k : Result) (h : ∀ n ∈ regs, s.hasReg n = true) :
    s.withRegs regs k = k := by
  have : regs.all s.hasReg = true := List.all_eq_true.mpr h
  simp [State.withRegs, this]

/-- `withRegs` goes on exactly when every register exists. -/
theorem withRegs_next (s t : State) (regs : List Nat) (k : Result) :
    s.withRegs regs k = .next t ↔ (∀ n ∈ regs, s.hasReg n = true) ∧ k = .next t := by
  by_cases h : regs.all s.hasReg = true
  · have h' := List.all_eq_true.mp h
    simp only [State.withRegs, h, if_true]
    exact ⟨fun e => ⟨h', e⟩, fun e => e.2⟩
  · have h' : ¬ ∀ n ∈ regs, s.hasReg n = true := fun e => h (List.all_eq_true.mpr e)
    simp [State.withRegs, h]
    intro e; exact absurd e h'

theorem withRegs_missing (s : State) (regs : List Nat) (k : Result) (n : Nat) (hn : n ∈ regs)
    (h : s.hasReg n = false) : s.withRegs regs k = .refused .unimplementedRegister := by
  have : regs.all s.hasReg = false := by
    rw [List.all_eq_false]; exact ⟨n, hn, by simp [h]⟩
  simp [State.withRegs, this]

@[simp] theorem privileged_supervisor (s : State) (k : Result) (h : s.psrS = true) : s.privileged k = k := by
  simp [State.privileged, h]

@[simp] theorem privileged_user (s : State) (k : Result) (h : s.psrS = false) :
    s.privileged k = s.raise .privilege := by
  simp [State.privileged, h]

@[simp] theorem requires_configured (s : State) (k : Result) : s.requires true k = k := rfl

@[simp] theorem requires_absent (s : State) (k : Result) : s.requires false k = s.raise .illegal := rfl

/-! ### Single accesses -/

theorem load_ok (s : State) (len rz : Nat) (a : Word) (w : Width) (sp : Bool) (ext : Word → Word) (v : Word)
    (h : s.readData a w false sp = .ok v) : 
    s.load len rz a w sp ext = (s.afterRead a w false sp).result len rz (ext v) := by
  simp [State.load, h]

theorem store_ok (s t : State) (len : Nat) (a : Word) (w : Width) (sp : Bool) (v : Word)
    (h : s.writeData a w false sp v = (t, none)) : s.store len a w sp v = .next (t.advance len) := by
  simp [State.store, h]

/-- An aligned read is the checks and one transfer. -/
theorem readData_aligned (s : State) (a : Word) (w : Width) (multi sp : Bool) (h : w.aligned a = true) :
    s.readData a w multi sp = s.readAligned a w sp := by
  simp [State.readData, h]

/-- An aligned write is the checks and one transfer. -/
theorem writeData_aligned (s : State) (a : Word) (w : Width) (multi sp : Bool) (v : Word) (h : w.aligned a = true) :
    s.writeData a w multi sp v = s.writeOnce a w sp v := by
  simp [State.writeData, h]

/-! ### The cache -/

/-- Memory changed past the cache: only which lines are old can change. -/
theorem outdate_frame (s : State) (x : Span) : ∃ old, s.outdate x = { s with old } := by
  unfold State.outdate
  split <;> exact ⟨_, rfl⟩

/-- Filling a line: only what the cache may hold can change. -/
theorem fill_frame (s : State) (a : Word) : ∃ held, s.fill a = { s with held } := by
  unfold State.fill
  split <;> exact ⟨_, rfl⟩

/-- A store: only what the cache may hold, and which lines are old, can change. -/
theorem markLines_frame (s : State) (a : Word) (n : Nat) (cached updates : Bool) :
    ∃ held old, s.markLines a n cached updates = { s with held, old } := by
  obtain ⟨held, e⟩ : ∃ held, (if cached then s.fill a else s) = { s with held } := by
    split
    · exact fill_frame s a
    · exact ⟨_, rfl⟩
  simp only [State.markLines, e]
  split
  · exact ⟨_, _, rfl⟩
  · split
    · obtain ⟨old, e'⟩ := outdate_frame { s with held } ⟨a.toNat, a.toNat + n⟩
      exact ⟨held, old, by rw [e']⟩
    · exact ⟨_, _, rfl⟩

/-- An aligned read can change what the cache may hold, and nothing else. -/
theorem afterTransfer_frame (s : State) (a : Word) (w : Width) (k : AccessKind) (sp : Bool) :
    ∃ held, s.afterTransfer a w k sp = { s with held } := by
  unfold State.afterTransfer
  split
  · split
    · split
      · exact fill_frame s a
      · exact ⟨_, rfl⟩
    · exact ⟨_, rfl⟩
  · exact ⟨_, rfl⟩

/-- A data read can change what the cache may hold, and nothing else. -/
theorem afterRead_frame (s : State) (a : Word) (w : Width) (multi sp : Bool) :
    ∃ held, s.afterRead a w multi sp = { s with held } := by
  unfold State.afterRead
  split
  · exact ⟨_, rfl⟩
  · split
    · exact afterTransfer_frame _ _ _ _ _
    · split
      · exact ⟨_, rfl⟩
      · split
        · simp only
          obtain ⟨h1, e1⟩ := afterTransfer_frame s (a - BitVec.ofNat 32 (a.toNat % 4)) .word .read sp
          rw [e1]
          split
          · exact ⟨_, rfl⟩
          · split
            · exact ⟨_, rfl⟩
            · obtain ⟨h2, e2⟩ := afterTransfer_frame { s with held := h1 } (a - BitVec.ofNat 32 (a.toNat % 4) + 4) .word
                .read sp
              exact ⟨h2, by rw [e2]⟩
        · exact afterTransfer_frame _ _ _ _ _

/-- A read past the cache leaves the cache as it is. -/
theorem afterTransfer_uncached (s : State) (a : Word) (w : Width) (k : AccessKind) (sp : Bool)
    (h : s.isCached a k = .ok false) : s.afterTransfer a w k sp = s := by
  unfold State.afterTransfer
  split
  · rw [h]
    split <;> simp_all
  · rfl

/-- An aligned data read past the cache leaves the cache as it is. -/
theorem afterRead_uncached (s : State) (a : Word) (w : Width) (multi sp : Bool) (ha : w.aligned a = true)
    (h : s.isCached a .read = .ok false) : s.afterRead a w multi sp = s := by
  unfold State.afterRead
  split
  · rfl
  · exact afterTransfer_uncached s a w .read sp h

/-- With the cache off no read changes what it may hold. -/
theorem afterRead_off (s : State) (a : Word) (w : Width) (multi sp : Bool) (h : s.cacheOn = false) :
    s.afterRead a w multi sp = s := by
  simp [State.afterRead, h]

/-- A span without another one holds its addresses that the other one does not. -/
theorem inSpans_without (x y : Span) (k : Nat) :
    inSpans (x.without y) k = (decide (x.lo ≤ k) && decide (k < x.hi) && !(decide (y.lo ≤ k) && decide (k < y.hi))) := by
  unfold Span.without
  by_cases h : y.hi ≤ x.lo ∨ x.hi ≤ y.lo
  · rw [if_pos h]
    simp only [inSpans, List.any_cons, List.any_nil, Bool.or_false]
    rw [Bool.eq_iff_iff]; simp; omega
  · rw [if_neg h]
    split <;> split <;> simp only [inSpans, List.any_cons, List.any_nil, List.cons_append, List.nil_append, Bool.or_false] <;>
      rw [Bool.eq_iff_iff] <;> simp <;> omega

/-- Taking a span out of a list leaves every other address in it. -/
theorem inSpans_flatMap_without (xs : List Span) (y : Span) (k : Nat) :
    inSpans (xs.flatMap (fun x => x.without y)) k = (inSpans xs k && !(decide (y.lo ≤ k) && decide (k < y.hi))) := by
  induction xs with
  | nil => rfl
  | cons x xs ih =>
    have e : inSpans ((x :: xs).flatMap (fun x => x.without y)) k
        = (inSpans (x.without y) k || inSpans (xs.flatMap (fun x => x.without y)) k) := by
      simp [inSpans, List.flatMap_cons, List.any_append]
    rw [e, ih, inSpans_without]
    simp only [inSpans, List.any_cons]
    cases decide (x.lo ≤ k) <;> cases decide (k < x.hi) <;> cases decide (y.lo ≤ k) <;> cases decide (k < y.hi) <;> simp

/-- The line of an address holds exactly the addresses with its quotient by the line's size. -/
theorem lineOf_holds (s : State) (a : Word) (k : Nat) :
    ((s.lineOf a).lo ≤ k ∧ k < (s.lineOf a).hi)
      ↔ k / 2 ^ s.cfg.cirInvAddrLsb = a.toNat / 2 ^ s.cfg.cirInvAddrLsb := by
  have h : ∀ z n : Nat, 0 < z → ((n / z * z ≤ k ∧ k < n / z * z + z) ↔ k / z = n / z) := by
    intro z n hz
    rw [Nat.div_eq_iff hz]
    omega
  exact h _ a.toNat (Nat.pow_pos (by decide))

/-- After lines are renewed no address of the span may be held old. -/
theorem renew_covers (s : State) (x y : Span) (h : y ∈ (s.renew x).old) :
    y.hi ≤ x.lo ∨ x.hi ≤ y.lo ∨ y.hi ≤ y.lo := by
  simp only [State.renew, List.mem_flatMap] at h
  obtain ⟨z, _, hz⟩ := h
  unfold Span.without at hz
  split at hz
  · simp only [List.mem_singleton] at hz
    subst hz
    omega
  · simp only [List.mem_append] at hz
    rcases hz with hz | hz <;> split at hz <;> simp_all

/-- No byte of an access differs from memory where no line may be old. -/
theorem oldLanes_fresh (s : State) (a : Word) (w : Width) (h : s.mayHitOld a w.bytes = false) : s.oldLanes a w = 0 := by
  cases w <;> simp_all [State.oldLanes, State.mayHitOld, Width.bytes, List.range_succ]

/-- A hit that meets no old byte gives what a line holds there. -/
theorem hit_fresh (s : State) (a : Word) (w : Width) (v : Word) (h : s.mayHitOld a w.bytes = false)
    (hf : s.filled a w = some v) (x : Word) (hx : s.hit a w = some x) : x = v := by
  have hv : v &&& 4294967295#32 = v := BitVec.and_allOnes
  simp only [State.hit, hf] at hx
  split at hx
  · simpa [oldLanes_fresh s a w h, hv] using hx.symm
  · cases hx

/-- The lane of a byte that is not old is clear. -/
theorem oldLanes_of_fresh_byte (s : State) (a : Word) (w : Width) (j : Nat) (hj : j < w.bytes)
    (h : s.byteOld (a.toNat + j) = false) :
    (s.oldLanes a w).extractLsb' (8 * (if s.cfg.bigEndian then w.bytes - 1 - j else j)) 8 = 0 := by
  cases w <;> simp only [Width.bytes] at hj <;> interval_cases j <;> cases e : s.cfg.bigEndian <;>
    simp only [State.oldLanes, Width.bytes, List.range_succ, List.range_zero, List.nil_append, List.cons_append,
      List.foldl_cons, List.foldl_nil, h, e] <;>
    (try generalize s.byteOld (a.toNat + 0) = b0) <;> (try generalize s.byteOld (a.toNat + 1) = b1) <;>
    (try generalize s.byteOld (a.toNat + 2) = b2) <;> (try generalize s.byteOld (a.toNat + 3) = b3) <;>
    (try revert b0) <;> (try revert b1) <;> (try revert b2) <;> (try revert b3) <;> decide

/-- Bits taken from another word where a mask is set leave a byte outside the mask alone. -/
theorem lanes_clear (v f m : Word) (n : Nat) (h : m.extractLsb' n 8 = 0) :
    ((v &&& ~~~m) ||| (f &&& m)).extractLsb' n 8 = v.extractLsb' n 8 := by
  ext i hi
  have hz := congrArg (fun b => b.getLsbD i) h
  simp only [BitVec.getLsbD_extractLsb', hi, decide_true, Bool.true_and, BitVec.getLsbD_zero, BitVec.ofNat_eq_ofNat] at hz
  by_cases hb : n + i < 32 <;> simp_all [← BitVec.getLsbD_eq_getElem]

/-- A hit gives, for a byte that is not old, the byte that a line holds there. -/
theorem hit_of_fresh_byte (s : State) (a : Word) (w : Width) (j : Nat) (x y : Word) (hj : j < w.bytes)
    (h : s.byteOld (a.toNat + j) = false) (hf : s.filled a w = some x) (hh : s.hit a w = some y) :
    y.extractLsb' (8 * (if s.cfg.bigEndian then w.bytes - 1 - j else j)) 8 =
      x.extractLsb' (8 * (if s.cfg.bigEndian then w.bytes - 1 - j else j)) 8 := by
  have hl := oldLanes_of_fresh_byte s a w j hj h
  simp only [State.hit, hf] at hh
  split at hh
  · simp only [Option.some.injEq] at hh
    subst hh
    exact lanes_clear _ _ _ _ hl
  · cases hh
/-- Where a slave answers a transfer with a value, that is what a line holds. -/
theorem filled_of_answer (s : State) (k : AccessKind) (cached : Bool) (a : Word) (w : Width) (v : Word)
    (h : s.platformRead a w k cached = .ok v) : s.filled a w = some v := by
  simp only [State.platformRead, State.slave] at h
  split at h
  · cases h
  · rename_i g e
    simp only [Option.getD_some] at h
    split at h
    · cases h
    · simp [State.filled, e, h, Except.toOption]

/-- A read that no line answers is the platform's answer. -/
theorem cacheRead_miss (s : State) (a : Word) (w : Width) (k : AccessKind) (cached : Bool)
    (h : cached = true → s.hit a w = none) : s.cacheRead a w k cached = s.platformRead a w k cached := by
  cases cached <;> simp_all [State.cacheRead, State.cacheAnswer]

/-- Everything a read through the cache or past it can give: what a hit gives, or the platform's answer. -/
theorem cacheRead_cases (s : State) (a : Word) (w : Width) (k : AccessKind) (cached : Bool) :
    (cached = true ∧ ∃ v, s.hit a w = some v ∧ s.cacheRead a w k cached = .ok v) ∨
    s.cacheRead a w k cached = s.platformRead a w k cached := by
  unfold State.cacheRead
  split
  · rename_i v e
    unfold State.cacheAnswer at e
    split at e
    · exact .inl ⟨by simp_all, v, e, rfl⟩
    · cases e
  · exact .inr rfl

/-- A read of memory that meets no line that may be old gives memory, through the cache or past it. -/
theorem cacheRead_memory (s : State) (a : Word) (w : Width) (k : AccessKind) (cached : Bool)
    (hs : s.slave k cached a = some .ram) (h : cached = true → s.mayHitOld a w.bytes = false) :
    s.cacheRead a w k cached = .ok (s.mem.load s.cfg.bigEndian a w) := by
  have hp : s.platformRead a w k cached = .ok (s.mem.load s.cfg.bigEndian a w) := by
    simp [State.platformRead, hs, State.answerRead]
  rcases cacheRead_cases s a w k cached with ⟨rfl, v, hv, e⟩ | e
  · rw [e, hit_fresh s a w _ (h rfl) (filled_of_answer s k true a w _ hp) v hv]
  · rw [e, hp]

/-- What the cache may hold decides no check of an access. -/
theorem mpuRegion_held (s : State) (held : List Span) (a : Word) (n : Nat) :
    { s with held }.mpuRegion a n = s.mpuRegion a n := by
  induction n with
  | zero => rfl
  | succ n ih =>
    simp only [State.mpuRegion, ih]
    rfl

theorem inCacheRegion_held (s : State) (held : List Span) (a : Word) (n : Nat) :
    { s with held }.inCacheRegion a n = s.inCacheRegion a n := by
  induction n with
  | zero => rfl
  | succ n ih =>
    simp only [State.inCacheRegion, ih]

/-- What a read gives does not change where the cache may hold more than before. -/
theorem cacheRead_held (s : State) (held : List Span) (a : Word) (w : Width) (k : AccessKind) (cached : Bool) (v : Word)
    (hh : ∀ x, inSpans s.held x = true → inSpans held x = true) (h : s.cacheRead a w k cached = .ok v) :
    { s with held }.cacheRead a w k cached = .ok v := by
  have hp : { s with held }.platformRead a w k cached = s.platformRead a w k cached := rfl
  have hf : { s with held }.filled a w = s.filled a w := rfl
  have ho : { s with held }.mayHitOld a w.bytes = s.mayHitOld a w.bytes := rfl
  have hl : { s with held }.oldLanes a w = s.oldLanes a w := rfl
  have hm : s.mayHit a w.bytes = true → { s with held }.mayHit a w.bytes = true := by
    intro e
    simp only [State.mayHit, Bool.or_eq_true, List.any_eq_true] at e ⊢
    rcases e with ⟨i, hi, e⟩ | e
    · exact .inl ⟨i, hi, hh _ e⟩
    · exact .inr e
  unfold State.cacheRead State.cacheAnswer at h ⊢
  by_cases hc : (cached && Config.freeBit s.free a.toNat) = true
  · simp only [hc, if_true] at h ⊢
    by_cases hmay : s.mayHit a w.bytes = true
    · have : { s with held }.hit a w = s.hit a w := by
        simp only [State.hit, hmay, hm hmay, if_true]
        rfl
      rw [this, hp]
      exact h
    · have hn : s.hit a w = none := by simp [State.hit, hmay]
      rw [hn] at h
      have hold : s.mayHitOld a w.bytes = false := by
        by_contra hx
        exact hmay (by simp [State.mayHit, hx])
      simp only at h
      cases e : { s with held }.hit a w with
      | none => rw [hp]; exact h
      | some x => rw [hit_fresh { s with held } a w v hold (filled_of_answer s k cached a w v h) x e]
  · simp only [hc] at h ⊢
    exact h

/-- A line that is filled is held besides what was. -/
theorem afterTransfer_held (s : State) (a : Word) (w : Width) (k : AccessKind) (sp : Bool) (x : Nat)
    (h : inSpans s.held x = true) : inSpans (s.afterTransfer a w k sp).held x = true := by
  have hf : inSpans (s.fill a).held x = true := by
    unfold State.fill
    split
    · exact h
    · simp only [inSpans, List.any_cons, Bool.or_eq_true]
      exact .inr h
  unfold State.afterTransfer
  split
  · split
    · split
      · exact hf
      · exact h
    · exact h
  · exact h

/-- A fetch that can be performed gives the same where the cache may hold more than before. -/
theorem fetchRead_held (s : State) (held : List Span) (b : Word) (x : Width) (v : Word)
    (hh : ∀ y, inSpans s.held y = true → inSpans held y = true) (h : s.fetchRead b x = .ok v) :
    { s with held }.fetchRead b x = .ok v := by
  unfold State.fetchRead at h ⊢
  have hc : { s with held }.checkAccess b x .fetch false = s.checkAccess b x .fetch false := by
    simp only [State.checkAccess, State.guardFails, State.mpuCheck, mpuRegion_held]
    rfl
  rw [hc]
  split at h
  · cases h
  · unfold State.busRead at h ⊢
    have hi : { s with held }.isCached b .fetch = s.isCached b .fetch := by
      simp only [State.isCached, inCacheRegion_held]
      rfl
    rw [hi]
    by_cases ht : (s.cfg.tcip && isTcip b) = true
    · rw [if_pos ht] at h
      exact (if_pos ht).trans h
    · rw [if_neg ht] at h
      refine (if_neg ht).trans ?_
      split at h
      · cases h
      · exact cacheRead_held s held b x .fetch _ v hh h

/-! ### Exceptions -/

/-- Entry through a vector whose word can be read. -/
theorem takeVector_ok (s : State) (vec : BitVec 8) (ret w : Word) (h : (s.enter vec ret).vectorWord vec = .ok w) :
    s.takeVector vec ret = .next (((s.enter vec ret).afterVector vec).jump w) := by
  simp [State.takeVector, h]

/-- Everything exception entry can answer: the handler of the vector, or of vector 8 where the vector's word could not
be read. -/
theorem takeVector_next (s t : State) (vec : BitVec 8) (ret : Word) (h : s.takeVector vec ret = .next t) :
    (∃ w, (s.enter vec ret).vectorWord vec = .ok w ∧ t = ((s.enter vec ret).afterVector vec).jump w) ∨
    (∃ w, ((s.enter vec ret).enter 8 ret).vectorWord 8 = .ok w ∧
      t = (((s.enter vec ret).enter 8 ret).afterVector 8).jump w) := by
  unfold State.takeVector at h
  simp only at h
  split at h
  · rename_i w hw
    exact .inl ⟨w, hw, by simpa using h.symm⟩
  · cases h
  · cases h
  · unfold State.vectorFailed at h
    simp only at h
    split at h
    · rename_i w hw
      exact .inr ⟨w, hw, by simpa using h.symm⟩
    · cases h
    · cases h
    · cases h

/-- Entry changes PSR, EPSR, EPC, PC, the marks on stored-to locations and what the cache may hold, and nothing else. -/
theorem takeVector_frame (s t : State) (vec : BitVec 8) (ret : Word) (h : s.takeVector vec ret = .next t) :
    ∃ psr epsr pc stale held, t = { s with psr, epsr, epc := ret, pc, stale, held } := by
  rcases takeVector_next s t vec ret h with ⟨w, _, rfl⟩ | ⟨w, _, rfl⟩
  · obtain ⟨held, e⟩ := afterTransfer_frame (s.enter vec ret) ((s.enter vec ret).vectorAddr vec) .word .fetch false
    exact ⟨_, _, _, _, held, by rw [State.afterVector, e]; rfl⟩
  · obtain ⟨held, e⟩ := afterTransfer_frame ((s.enter vec ret).enter 8 ret)
      (((s.enter vec ret).enter 8 ret).vectorAddr 8) .word .fetch false
    exact ⟨_, _, _, _, held, by rw [State.afterVector, e]; rfl⟩

/-- The bits of PSR after entry. -/
theorem psrEnter_bits (p : Word) (vec : BitVec 8) (k : Nat) :
    (psrEnter p vec).getLsbD k =
      if k = 31 then true else if 16 ≤ k ∧ k < 24 then vec.getLsbD (k - 16)
      else if k = 8 ∨ k = 6 then false else p.getLsbD k := by
  by_cases hk : k < 32
  · have hm : ∀ j < 32, (0x80FF0140#32).getLsbD j = (j == 31 || (16 ≤ j && j < 24) || j == 8 || j == 6) := by decide
    have h8 : ∀ j < 32, (0x80000000#32).getLsbD j = (j == 31) := by decide
    simp only [psrEnter, BitVec.getLsbD_or, BitVec.getLsbD_and, BitVec.getLsbD_not, BitVec.getLsbD_shiftLeft,
      BitVec.getLsbD_setWidth, hm k hk, h8 k hk, hk, decide_true, Bool.true_and]
    by_cases e31 : k = 31
    · simp [e31]
    by_cases e16 : 16 ≤ k ∧ k < 24
    · have : k - 16 < 32 := by omega
      have h16 : ¬ k < 16 := by omega
      simp [e31, e16, this, h16]
    by_cases e8 : k = 8 ∨ k = 6
    · have hlt : k < 16 := by omega
      rcases e8 with rfl | rfl <;> simp
    · have hv : (!decide (k < 16) && (decide (k - 16 < 32) && vec.getLsbD (k - 16))) = false := by
        by_cases h16 : k < 16
        · simp [h16]
        · simp [BitVec.getLsbD_of_ge vec (k - 16) (by omega)]
      simp only [e31, e16, e8, if_false, hv]
      have : (k == 31 || (decide (16 ≤ k) && decide (k < 24)) || k == 8 || k == 6) = false := by
        simp; omega
      simp [this, e31]
  · have a : k ≠ 31 := by omega
    have b : ¬ (16 ≤ k ∧ k < 24) := by omega
    have c : ¬ (k = 8 ∨ k = 6) := by omega
    simp [a, b, c, BitVec.getLsbD_of_ge _ k (by omega : 32 ≤ k)]

/-- VEC after entry. -/
theorem psrEnter_vec (p : Word) (vec : BitVec 8) : (psrEnter p vec).extractLsb' 16 8 = vec := by
  ext i hi
  have h1 : 16 ≤ 16 + i ∧ 16 + i < 24 := by omega
  have h2 : ¬ 16 + i = 31 := by omega
  simp [psrEnter_bits, h1, h2, BitVec.getLsbD_eq_getElem hi]

/-! ### Writes -/

/-- What a write to CIR can change. -/
theorem writeCir_frame (s : State) (v : Word) :
    ∃ held old stale, s.writeCir v = { s with held, old, stale, cirWritten := true } := by
  unfold State.writeCir
  split
  · exact ⟨_, _, _, rfl⟩
  · split <;> exact ⟨_, _, _, rfl⟩

/-- What a register write over the tightly coupled bus can change. -/
theorem writeTcip_frame (s : State) (g : TcipReg) (v : Word) :
    ∃ cer cirWritten crcr secr held old stale,
      s.writeTcip g v = { s with cer, cirWritten, crcr, secr, held, old, stale } := by
  cases g with
  | cir =>
    obtain ⟨a, b, c, e⟩ := writeCir_frame s v
    exact ⟨_, _, _, _, _, _, _, e⟩
  | _ => exact ⟨_, _, _, _, _, _, _, rfl⟩

/-- What an answered write can change: memory and the marks, or the marks alone. -/
theorem answerWrite_frame (s t : State) (a : Word) (w : Width) (v : Word) (cached : Bool) (k : RegionKind)
    (h : s.answerWrite a w v cached k = .ok t) :
    (∃ held old stale, t = { s with held, old, stale }) ∨
      ∃ held old stale, t = { s with mem := s.mem.store s.cfg.bigEndian a v w, held, old, stale } := by
  cases k <;> simp only [State.answerWrite, Except.ok.injEq, reduceCtorEq] at h
  case ram =>
    obtain ⟨held, old, e⟩ := markLines_frame ({ s with mem := s.mem.store s.cfg.bigEndian a v w }.markStale a w.bytes) a
      w.bytes cached (cached || s.cfg.smcCoherent)
    rw [e] at h
    exact .inr ⟨held, old, _, h.symm⟩
  all_goals
    obtain ⟨held, old, e⟩ := markLines_frame (s.markStale a w.bytes) a w.bytes cached s.cfg.smcCoherent
    rw [e] at h
    exact .inl ⟨held, old, _, h.symm⟩

/-- What a write transfer can change: memory and the marks, or a tightly coupled register. -/
theorem busWrite_frame (s t : State) (a : Word) (w : Width) (v : Word) (h : s.busWrite a w v = .ok t) :
    (isTcip a = true ∧ t.mem = s.mem ∧ ∃ cer cirWritten crcr secr held old stale,
        t = { s with cer, cirWritten, crcr, secr, held, old, stale }) ∨ (∃ held old stale, t = { s with held, old, stale }) ∨
    (∃ held old stale, t = { s with mem := s.mem.store s.cfg.bigEndian a v w, held, old, stale }) := by
  unfold State.busWrite at h
  split at h
  · rename_i ht
    split at h
    · cases h
    · rename_i g _
      obtain ⟨c1, c2, c3, c4, c5, c6, c7, e⟩ := writeTcip_frame s g v
      simp only [Except.ok.injEq] at h
      subst h
      refine .inl ⟨by simp_all, by rw [e], c1, c2, c3, c4, c5, c6, c7, e⟩
    · split at h
      · cases h
      · exact .inr (answerWrite_frame _ _ _ _ _ _ _ h)
  · split at h
    · cases h
    · exact .inr (answerWrite_frame _ _ _ _ _ _ _ h)

/-- A write the core lets pass, in the mode PSR.S: a tightly coupled register only in supervisor mode. -/
theorem writeAligned_frame (s t : State) (a : Word) (w : Width) (sp : Bool) (v : Word)
    (h : s.writeAligned a w sp v = .ok t) :
    (s.psrS = true ∧ t.mem = s.mem ∧ ∃ cer cirWritten crcr secr held old stale,
        t = { s with cer, cirWritten, crcr, secr, held, old, stale }) ∨ (∃ held old stale, t = { s with held, old, stale }) ∨
    (∃ held old stale, t = { s with mem := s.mem.store s.cfg.bigEndian a v w, held, old, stale }) := by
  unfold State.writeAligned at h
  split at h
  · cases h
  · rename_i hc
    rcases busWrite_frame s t a w v h with ⟨ht, hm, he⟩ | he
    · refine .inl ⟨?_, hm, he⟩
      by_contra hs
      simp only [State.checkAccess, ht] at hc
      split at hc <;> simp_all
    · exact .inr he

/-- The states that a write of any kind can leave, with what another bus master writes meanwhile. -/
structure WriteFrame (s t : State) : Prop where
  /-- Nothing but memory, the marks and the tightly coupled registers has changed. -/
  others : ∃ mem cer cirWritten crcr secr held old stale between,
    t = { s with mem, cer, cirWritten, crcr, secr, held, old, stale, between }
  /-- In user mode no tightly coupled register has changed. -/
  user : s.psrS = false → ∃ mem held old stale between, t = { s with mem, held, old, stale, between }
  /-- The canonical form is kept. -/
  wf : s.mem.wf = true → t.mem.wf = true

theorem writeFrame_refl (s : State) : WriteFrame s s :=
  ⟨⟨_, _, _, _, _, _, _, _, _, rfl⟩, fun _ => ⟨_, _, _, _, _, rfl⟩, fun h => h⟩

theorem writeFrame_trans (s t u : State) (h1 : WriteFrame s t) (h2 : WriteFrame t u) : WriteFrame s u := by
  obtain ⟨⟨m, c1, c2, c3, c4, c5, c6, c7, c8, e1⟩, u1, w1⟩ := h1
  obtain ⟨⟨m', d1, d2, d3, d4, d5, d6, d7, d8, e2⟩, u2, w2⟩ := h2
  refine ⟨⟨m', d1, d2, d3, d4, d5, d6, d7, d8, by rw [e2, e1]⟩, ?_, fun h => w2 (w1 h)⟩
  intro hs
  obtain ⟨a, b, c, d, f, e⟩ := u1 hs
  have : t.psrS = false := by rw [e]; exact hs
  obtain ⟨a', b', c', d', f', e'⟩ := u2 this
  exact ⟨a', b', c', d', f', by rw [e', e]⟩

theorem writeAligned_writeFrame (s t : State) (a : Word) (w : Width) (sp : Bool) (v : Word)
    (h : s.writeAligned a w sp v = .ok t) : WriteFrame s t := by
  rcases writeAligned_frame s t a w sp v h with ⟨hs, hm, c1, c2, c3, c4, c5, c6, c7, e⟩ | ⟨held, old, st, e⟩ | ⟨held, old, st, e⟩
  · exact ⟨⟨s.mem, c1, c2, c3, c4, c5, c6, c7, s.between, by rw [e]⟩, fun h' => by simp [hs] at h',
      fun h' => by rw [hm]; exact h'⟩
  · exact ⟨⟨_, _, _, _, _, _, _, _, _, e⟩, fun _ => ⟨_, _, _, _, _, e⟩, fun h' => by rw [e]; exact h'⟩
  · refine ⟨⟨_, _, _, _, _, _, _, _, _, e⟩, fun _ => ⟨_, _, _, _, _, e⟩, fun h' => ?_⟩
    rw [e]
    exact store_wf _ _ _ _ _ h'

/-- What another bus master writes changes memory and the marks on lines only. -/
theorem externalWrite_frame (s : State) (a : Word) (b : Byte) :
    ∃ old, s.externalWrite a b = { s with mem := s.mem.setByte a b, old } := by
  simp only [State.externalWrite]
  split
  · exact outdate_frame _ _
  · exact ⟨_, rfl⟩

/-- Several writes behind the core: memory, and which lines are old. -/
theorem externalWrites_frame (ws : List (Word × Byte)) (s : State) :
    ∃ old, s.externalWrites ws = { s with mem := ws.foldl (fun m p => m.setByte p.1 p.2) s.mem, old } := by
  induction ws generalizing s with
  | nil => exact ⟨_, rfl⟩
  | cons p ps ih =>
    obtain ⟨old, e⟩ := externalWrite_frame s p.1 p.2
    obtain ⟨old', e'⟩ := ih (s.externalWrite p.1 p.2)
    exact ⟨old', by rw [State.externalWrites, e', e]; rfl⟩

/-- New answers of the platform: the ranges, and which lines are old. -/
theorem setAnswers_frame (s : State) (gs : List Region) : ∃ old, s.setAnswers gs = { s with answers := gs, old } := by
  have h : ∀ (rs : List Region) (t : State),
      ∃ old, rs.foldl (fun t g => t.outdate ⟨g.base, g.base + g.size⟩) t = { t with old } := by
    intro rs
    induction rs with
    | nil => exact fun t => ⟨_, rfl⟩
    | cons g rs ih =>
      intro t
      obtain ⟨old, e⟩ := outdate_frame t ⟨g.base, g.base + g.size⟩
      obtain ⟨old', e'⟩ := ih (t.outdate ⟨g.base, g.base + g.size⟩)
      exact ⟨old', by rw [List.foldl_cons, e', e]⟩
  exact h _ _

/-- The system's part of a reset of the core: what answers, memory, which lines are old; and it is used up. -/
theorem systemReset_frame (s : State) :
    ∃ old, s.systemReset = { s with
      answers := s.onReset.answers.getD s.answers
      mem := s.onReset.writes.foldl (fun m p => m.setByte p.1 p.2) s.mem
      old
      onReset := SystemReset.keep } := by
  obtain ⟨old, e⟩ := setAnswers_frame s (s.onReset.answers.getD s.answers)
  unfold State.systemReset
  rw [e]
  obtain ⟨old', e'⟩ := externalWrites_frame s.onReset.writes { s with answers := s.onReset.answers.getD s.answers, old }
  exact ⟨old', by rw [e']⟩

/-- Bytes written in order: an address that none of them names reads as before. -/
theorem byteAt_foldl_other (ws : List (Word × Byte)) (m : Memory) (x : Word) (h : ∀ p ∈ ws, p.1 ≠ x) :
    (ws.foldl (fun m p => m.setByte p.1 p.2) m).byteAt x = m.byteAt x := by
  induction ws generalizing m with
  | nil => rfl
  | cons p ps ih =>
    rw [List.foldl_cons, ih _ (fun q hq => h q (List.mem_cons_of_mem _ hq)),
      byteAt_setByte_other _ _ _ _ (Ne.symm (h p List.mem_cons_self))]

/-- Bytes written in order keep the canonical form. -/
theorem foldl_setByte_wf (ws : List (Word × Byte)) (m : Memory) (h : m.wf = true) :
    (ws.foldl (fun m p => m.setByte p.1 p.2) m).wf = true := by
  induction ws generalizing m with
  | nil => exact h
  | cons p ps ih => exact ih _ (setByte_wf _ _ _ h)

/-- What a reset does when it answers a next state. -/
theorem takeReset_next {s t : State} (h : s.takeReset = .next t) :
    ∃ w, s.systemReset.resetRegisters.fetchRead 0 .word = .ok w ∧ t = s.systemReset.resetRegisters.jump w := by
  cases e : s.systemReset.resetRegisters.fetchRead 0 .word with
  | ok w =>
    simp only [State.takeReset, e] at h
    cases h
    exact ⟨w, rfl, rfl⟩
  | error a =>
    simp only [State.takeReset, e] at h
    cases a <;> cases h

theorem externalWrites_writeFrame (ws : List (Word × Byte)) (s : State) : WriteFrame s (s.externalWrites ws) := by
  induction ws generalizing s with
  | nil => exact writeFrame_refl s
  | cons p ps ih =>
    obtain ⟨old, e⟩ := externalWrite_frame s p.1 p.2
    refine writeFrame_trans s (s.externalWrite p.1 p.2) _ ?_ (ih _)
    rw [e]
    exact ⟨⟨_, _, _, _, _, _, _, _, _, rfl⟩, fun _ => ⟨_, _, _, _, _, rfl⟩, fun h => setByte_wf _ _ _ h⟩

theorem afterRead_writeFrame (s : State) (a : Word) (w : Width) (multi sp : Bool) :
    WriteFrame s (s.afterRead a w multi sp) := by
  obtain ⟨held, e⟩ := afterRead_frame s a w multi sp
  rw [e]
  exact ⟨⟨_, _, _, _, _, _, _, _, _, rfl⟩, fun _ => ⟨_, _, _, _, _, rfl⟩, fun h => h⟩

/-- What lands between two transfers changes memory and the marks on lines, and is then used up. -/
theorem landWrites_writeFrame (s : State) : WriteFrame s s.landWrites := by
  unfold State.landWrites
  split
  · exact writeFrame_refl s
  · refine writeFrame_trans s _ _ ?_ (externalWrites_writeFrame _ _)
    exact ⟨⟨_, _, _, _, _, _, _, _, _, rfl⟩, fun _ => ⟨_, _, _, _, _, rfl⟩, fun h => h⟩

/-- Nothing lands where no other bus master writes. -/
@[simp] theorem landWrites_of_nil (s : State) (h : s.between = []) : s.landWrites = s := by
  simp [State.landWrites, h]

theorem writeSplit_writeFrame (a : Word) (n : Nat) (sp : Bool) (v : Word) (ps : List (Nat × Width)) (s : State) :
    WriteFrame s (s.writeSplit a n sp v ps).1 := by
  induction ps generalizing s with
  | nil => exact writeFrame_refl s
  | cons p ps ih =>
    unfold State.writeSplit
    split
    · exact writeFrame_refl s
    · rename_i t ht
      exact writeFrame_trans _ _ _ (writeAligned_writeFrame _ _ _ _ _ _ ht) (ih t)

/-- What a data write can change, performed or not. -/
theorem writeData_writeFrame (s : State) (a : Word) (w : Width) (multi sp : Bool) (v : Word) :
    WriteFrame s (s.writeData a w multi sp v).1 := by
  have once : ∀ b, WriteFrame s (s.writeOnce b w sp v).1 := by
    intro b
    unfold State.writeOnce
    split
    · exact writeFrame_refl s
    · rename_i t ht
      exact writeAligned_writeFrame _ _ _ _ _ _ ht
  unfold State.writeData
  split
  · exact once a
  · split
    · exact writeFrame_refl s
    · split
      · exact writeSplit_writeFrame _ _ _ _ _ _
      · exact once _

/-! ### Multi-access instructions -/

/-- What the transfers of a multi-access instruction can change: no register. -/
theorem transfer_writeFrame (sp : Bool) (xs : List Xfer) (s : State) (l : List (Nat × Word)) :
    WriteFrame s (s.transfer sp l xs).state := by
  induction xs generalizing s l with
  | nil => exact writeFrame_refl s
  | cons x xs ih =>
    cases x with
    | load n a =>
      unfold State.transfer
      split
      · exact writeFrame_refl s
      · exact writeFrame_trans _ _ _ (afterRead_writeFrame s a .word true sp)
          (writeFrame_trans _ _ _ (landWrites_writeFrame _) (ih _ _))
    | store v a =>
      have hw := writeData_writeFrame s a .word true sp v
      unfold State.transfer
      split
      · rename_i t e he
        rw [he] at hw; exact hw
      · rename_i t he
        rw [he] at hw
        exact writeFrame_trans _ _ _ hw (writeFrame_trans _ _ _ (landWrites_writeFrame t) (ih _ l))

/-- The registers that loads write, and no other state. -/
theorem setRegs_frame (ps : List (Nat × Word)) (s : State) :
    ∃ r lr userSp spvSp intSp fpB top bsp svbr,
      s.setRegs ps = { s with r, lr, userSp, spvSp, intSp, fpB, top, bsp, svbr } := by
  induction ps generalizing s with
  | nil => exact ⟨_, _, _, _, _, _, _, _, _, rfl⟩
  | cons p ps ih =>
    obtain ⟨a, b, c, d, e, f, g, h, i, hh⟩ := ih (s.setReg p.1 p.2)
    exact ⟨a, b, c, d, e, f, g, h, i, by rw [State.setRegs, hh]; rfl⟩

theorem drawLoaded_frame (ps : List (Nat × Word)) (s : State) :
    ∃ r lr userSp spvSp intSp fpB top bsp svbr,
      s.drawLoaded ps = { s with r, lr, userSp, spvSp, intSp, fpB, top, bsp, svbr } := by
  induction ps generalizing s with
  | nil => exact ⟨_, _, _, _, _, _, _, _, _, rfl⟩
  | cons p ps ih =>
    obtain ⟨a, b, c, d, e, f, g, h, i, hh⟩ :=
      ih (s.setReg p.1 (if Config.freeBit s.free (2 ^ 34 + p.1) then p.2 else s.reg p.1))
    exact ⟨a, b, c, d, e, f, g, h, i, by rw [State.drawLoaded, hh]; rfl⟩

/-- Everything `multi` can answer: all transfers made and the continuation, or an exception from the partial state. -/
theorem multi_next (s t : State) (sp : Bool) (xs : List Xfer) (k : State → Result) (h : s.multi sp xs k = .next t) :
    ((s.transfer sp [] xs).stop = none
      ∧ k ((s.transfer sp [] xs).state.setRegs (s.transfer sp [] xs).loaded) = .next t) ∨
    (∃ e, (s.transfer sp [] xs).stop = some e ∧ (s.transfer sp [] xs).partialState.abort e = .next t) := by
  unfold State.multi at h
  simp only at h
  split at h
  · rename_i he; exact .inl ⟨he, h⟩
  · rename_i e he; exact .inr ⟨e, he, h⟩

/-- An abort that answers a next state is an exception entry with EPC the current instruction. -/
theorem abort_next (s t : State) (e : Abort) (h : s.abort e = .next t) :
    ∃ c, e = .raise c ∧ s.takeVector (s.vectorFor c) s.pc = .next t := by
  cases e with
  | raise c => exact ⟨c, rfl, h⟩
  | refuse r => cases h
  | stuck => cases h

end Sys2Proof.Machine
end

