-- ==== Sys2Proof/Laws/Frames.lean ====
section
/-! SUPPORT. The frames of `Safety` for each shared operation: what a register result, a condition, a jump, a load, a
store and an exception entry change, and that nothing else does. -/

namespace Sys2Proof.Machine

/-! ### Registers -/

theorem spOf_setReg_other (s : State) (n : Nat) (v : Word) (b : Bank) (h : b ≠ s.bank14) :
    (s.setReg n v).spOf b = s.spOf b := by
  cases b <;> simp_all [State.spOf, State.setReg, eq_comm]

/-- A register write changes that register only, and no bank of R14 but the one R14 names. -/
theorem setReg_regsExcept (s : State) (n : Nat) (v : Word) : RegsExcept s (s.setReg n v) [n] :=
  ⟨fun k hk => reg_setReg_other s n k v (by simpa using hk), fun b hb => spOf_setReg_other s n v b hb⟩

/-- A register result is what it should be, and all it does. -/
theorem result_writes (s : State) (len rz : Nat) (v : Word) (h : s.hasReg rz = true) :
    Writes s ((s.setReg rz v).advance len) rz v len :=
  ⟨reg_setReg_same s rz v h, setReg_regsExcept s rz v, rfl, ⟨rfl, rfl⟩, by constructor <;> rfl, fun _ => rfl, rfl⟩

theorem setC_onlyC (s : State) (c : Bool) : OnlyC s (s.setC c) c :=
  ⟨psrWithC_zero s.psr c, fun k hk => getLsbD_psrWithC s.psr c k hk⟩

theorem spOf_setC (s : State) (c : Bool) (b : Bank) : (s.setC c).spOf b = s.spOf b := by cases b <;> rfl

/-- A register result with a condition is what it should be, and all it does. -/
theorem resultC_writesC (s : State) (len rz : Nat) (v : Word) (c : Bool) (h : s.hasReg rz = true) :
    WritesC s (((s.setReg rz v).setC c).advance len) rz v c len := by
  refine ⟨?_, ⟨fun k hk => ?_, fun b hb => ?_⟩, setC_onlyC (s.setReg rz v) c, ⟨rfl, rfl⟩, by constructor <;> rfl,
    fun _ => rfl, rfl⟩
  · rw [advance_reg, setC_reg, reg_setReg_same s rz v h]
  · rw [advance_reg, setC_reg, reg_setReg_other s rz k v (by simpa using hk)]
  · exact (spOf_setC (s.setReg rz v) c b).trans (spOf_setReg_other s rz v b hb)

theorem sameRegs_refl (s : State) : SameRegs s s := ⟨rfl, rfl, fun _ => rfl, rfl, rfl, rfl, rfl⟩

/-- A condition result is what it should be, and all it does. -/
theorem condition_setsC (s : State) (len : Nat) (c : Bool) : SetsC s ((s.setC c).advance len) c len :=
  ⟨⟨rfl, rfl, spOf_setC s c, rfl, rfl, rfl, rfl⟩, setC_onlyC s c, ⟨rfl, rfl⟩, by constructor <;> rfl, fun _ => rfl,
    rfl⟩

/-- Going on changes the PC only. -/
theorem advance_goesTo (s : State) (len : Nat) : GoesTo s (s.advance len) (s.pc + BitVec.ofNat 32 len) :=
  ⟨sameRegs_refl s, rfl, ⟨rfl, rfl⟩, by constructor <;> rfl, fun _ => rfl, rfl⟩

/-- A control transfer changes the PC only. -/
theorem jump_goesTo (s : State) (a : Word) : GoesTo s (s.jump a) (evenAddr a) :=
  ⟨⟨rfl, rfl, fun b => by cases b <;> rfl, rfl, rfl, rfl, rfl⟩, rfl, ⟨rfl, rfl⟩, by constructor <;> rfl, fun _ => rfl,
    rfl⟩

/-- A call changes R15 and the PC only. -/
theorem link_links (s : State) (v a : Word) : Links s ((s.setReg 15 v).jump a) v (evenAddr a) :=
  ⟨rfl, setReg_regsExcept s 15 v, rfl, ⟨rfl, rfl⟩, by constructor <;> rfl, fun _ => rfl, rfl⟩

/-! ### Accesses -/

/-- A read that is allowed gives what is in memory. -/
theorem readData_allowed (s : State) (a : Word) (w : Width) (multi sp : Bool) (h : Allowed s a w .read sp) :
    s.readData a w multi sp = .ok (s.mem.load s.cfg.bigEndian a w) := by
  obtain ⟨h1, h2, h3, h4, h5⟩ := h
  rw [readData_aligned _ _ _ _ _ h1]
  simp [State.readAligned, h2, State.busRead, h3, h5, cacheRead_memory s a w .read false h4 nofun]

/-- A read that is allowed leaves the cache as it is. -/
theorem afterRead_allowed (s : State) (a : Word) (w : Width) (multi sp : Bool) (h : Allowed s a w .read sp) :
    s.afterRead a w multi sp = s :=
  afterRead_uncached s a w multi sp h.1 h.2.2.2.2

/-- A write that is allowed stores to memory and marks what it stored to. -/
theorem writeData_allowed (s : State) (a : Word) (w : Width) (multi sp : Bool) (v : Word)
    (h : Allowed s a w .write sp) :
    s.writeData a w multi sp v =
      (({ s with mem := s.mem.store s.cfg.bigEndian a v w }.markStale a w.bytes).markLines a w.bytes false
        s.cfg.smcCoherent, none) := by
  obtain ⟨h1, h2, h3, h4, h5⟩ := h
  rw [writeData_aligned _ _ _ _ _ _ h1]
  simp [State.writeOnce, State.writeAligned, h2, State.busWrite, h3, h4, h5, State.answerWrite]

/-! ### Exceptions -/

/-- Entry through a vector whose word can be read is what it should be, and all it does. -/
theorem takeVector_entered (s : State) (vec : BitVec 8) (ret w : Word) (h : VectorReads s vec ret w) :
    ∃ t, s.takeVector vec ret = .next t ∧ Entered s t vec ret w := by
  obtain ⟨held, e⟩ := afterTransfer_frame (s.enter vec ret) ((s.enter vec ret).vectorAddr vec) .word .fetch false
  refine ⟨_, takeVector_ok s vec ret w h, ?_⟩
  rw [State.afterVector, e]
  refine ⟨rfl, rfl, ?_, psrEnter_vec s.psr vec, ?_, ?_, ?_, rfl,
    ⟨rfl, rfl, fun b => by cases b <;> rfl, rfl, rfl, rfl, rfl⟩, by constructor <;> rfl, fun _ => rfl⟩
  · exact (psrEnter_bits s.psr vec 31).trans (by simp)
  · exact (psrEnter_bits s.psr vec 8).trans (by simp)
  · exact (psrEnter_bits s.psr vec 6).trans (by simp)
  · intro k hk h6 h8 h31
    exact (psrEnter_bits s.psr vec k).trans (by
      have : ¬ (16 ≤ k ∧ k < 24) := by omega
      simp [h6, h8, h31, this])

/-- A vector that can be read can be read where the cache may hold more. -/
theorem vectorReads_held (s : State) (held : List Span) (vec : BitVec 8) (ret w : Word)
    (hh : ∀ y, inSpans s.held y = true → inSpans held y = true) (h : VectorReads s vec ret w) :
    VectorReads { s with held } vec ret w :=
  fetchRead_held (s.enter vec ret) held ((s.enter vec ret).vectorAddr vec) .word w hh h

/-- A fetch changes what the cache may hold, to more than before, and nothing else. -/
theorem afterFetch_frame (s : State) :
    ∃ held, s.afterFetch = { s with held } ∧ ∀ y, inSpans s.held y = true → inSpans held y = true := by
  have one : ∀ (t : State) (a : Word), ∃ held, t.afterTransfer a .half .fetch false = { t with held } ∧
      ∀ y, inSpans t.held y = true → inSpans held y = true := by
    intro t a
    obtain ⟨held, e⟩ := afterTransfer_frame t a .half .fetch false
    refine ⟨held, e, fun y hy => ?_⟩
    have := afterTransfer_held t a .half .fetch false y hy
    rwa [e] at this
  unfold State.afterFetch
  split
  · split
    · exact ⟨s.held, rfl, fun _ h => h⟩
    · obtain ⟨h1, e1, g1⟩ := one s s.pc
      simp only [e1]
      split
      · obtain ⟨h2, e2, g2⟩ := one { s with held := h1 } (s.pc + 2)
        exact ⟨h2, by rw [e2], fun y hy => g2 y (g1 y hy)⟩
      · exact ⟨h1, rfl, g1⟩
  · exact ⟨s.held, rfl, fun _ h => h⟩

/-- Fetching past the cache leaves the cache as it is. -/
theorem afterFetch_uncached (s : State) (h : s.isCached s.pc .fetch = .ok false)
    (h2 : ∀ h0, s.fetchParcel s.pc = .ok h0 → isLong h0.toNat = true → s.isCached (s.pc + 2) .fetch = .ok false) :
    s.afterFetch = s := by
  unfold State.afterFetch
  split
  · split
    · rfl
    · rename_i h0 e
      simp only [afterTransfer_uncached s s.pc .half .fetch false h]
      split
      · rename_i hl
        exact afterTransfer_uncached s _ .half .fetch false (h2 h0 e hl)
      · rfl
  · rfl

/-- The vector of a synchronous exception. -/
theorem vectorFor_sync (s : State) (c : Cause) (h : c.keepsVector = false) :
    s.vectorFor c = syncVector s c.vector := by
  cases he : s.psrEE <;> simp [State.vectorFor, syncVector, he, h]

/-- Raising a synchronous exception takes its vector. -/
theorem raise_entered (s : State) (c : Cause) (w : Word) (hc : c.keepsVector = false)
    (h : VectorReads s (syncVector s c.vector) s.pc w) :
    ∃ t, s.raise c = .next t ∧ Entered s t (syncVector s c.vector) s.pc w := by
  rw [State.raise, State.takeException, vectorFor_sync s c hc]
  exact takeVector_entered s _ _ w h

end Sys2Proof.Machine
end

