-- ==== Sys2Proof/Laws/PerInstr.lean ====
section
/-! SUPPORT. For every instruction: the first bits of its word say its length (30_encoding.md rule R121). -/

set_option Elab.async false

namespace Sys2Proof.Laws.Length

/-- The word of a well-formed instruction of 2 bytes is a parcel below 0xC000, that of one of 4 bytes begins with a
parcel of 0xC000 or more (30_encoding.md rule R121). -/
def Statement (i : Instr) : Prop :=
  i.wf = true →
    (i.size = 2 ∧ encodeWord i < 0xC000) ∨ (i.size = 4 ∧ 0xC0000000 ≤ encodeWord i ∧ encodeWord i < 2 ^ 32)

theorem addu16 (rz rx : Nat) : Statement (.addu16 rz rx) := by
  intro h
  simp only [Instr.wf, Bool.and_eq_true, decide_eq_true_eq] at h
  refine .inl ⟨rfl, ?_⟩
  simp only [encodeWord, Instr.core, encodeCore]
  omega

theorem addu16r (rz rx ry : Nat) : Statement (.addu16r rz rx ry) := by
  intro h
  simp only [Instr.wf, Bool.and_eq_true, decide_eq_true_eq] at h
  refine .inl ⟨rfl, ?_⟩
  simp only [encodeWord, Instr.core, encodeCore]
  omega

theorem addu32 (rz rx ry : Nat) : Statement (.addu32 rz rx ry) := by
  intro h
  simp only [Instr.wf, Bool.and_eq_true, decide_eq_true_eq] at h
  refine .inr ⟨rfl, ?_⟩
  simp only [encodeWord, Instr.core, encodeCore]
  omega

theorem addc16 (rz rx : Nat) : Statement (.addc16 rz rx) := by
  intro h
  simp only [Instr.wf, Bool.and_eq_true, decide_eq_true_eq] at h
  refine .inl ⟨rfl, ?_⟩
  simp only [encodeWord, Instr.core, encodeCore]
  omega

theorem addc32 (rz rx ry : Nat) : Statement (.addc32 rz rx ry) := by
  intro h
  simp only [Instr.wf, Bool.and_eq_true, decide_eq_true_eq] at h
  refine .inr ⟨rfl, ?_⟩
  simp only [encodeWord, Instr.core, encodeCore]
  omega

theorem addi16 (rz imm8 : Nat) : Statement (.addi16 rz imm8) := by
  intro h
  simp only [Instr.wf, Bool.and_eq_true, decide_eq_true_eq] at h
  refine .inl ⟨rfl, ?_⟩
  simp only [encodeWord, Instr.core, encodeCore]
  omega

theorem addi16r (rz rx imm3 : Nat) : Statement (.addi16r rz rx imm3) := by
  intro h
  simp only [Instr.wf, Bool.and_eq_true, decide_eq_true_eq] at h
  refine .inl ⟨rfl, ?_⟩
  simp only [encodeWord, Instr.core, encodeCore]
  omega

theorem addi32 (rz rx imm12 : Nat) : Statement (.addi32 rz rx imm12) := by
  intro h
  simp only [Instr.wf, Bool.and_eq_true, decide_eq_true_eq] at h
  refine .inr ⟨rfl, ?_⟩
  simp only [encodeWord, Instr.core, encodeCore]
  omega

theorem addi16sp (rz imm8 : Nat) : Statement (.addi16sp rz imm8) := by
  intro h
  simp only [Instr.wf, Bool.and_eq_true, decide_eq_true_eq] at h
  refine .inl ⟨rfl, ?_⟩
  simp only [encodeWord, Instr.core, encodeCore]
  omega

theorem addi16spsp (imm7 : Nat) : Statement (.addi16spsp imm7) := by
  intro h
  simp only [Instr.wf, decide_eq_true_eq] at h
  refine .inl ⟨rfl, ?_⟩
  simp only [encodeWord, Instr.core, encodeCore]
  omega

theorem subu16 (rz rx : Nat) : Statement (.subu16 rz rx) := by
  intro h
  simp only [Instr.wf, Bool.and_eq_true, decide_eq_true_eq] at h
  refine .inl ⟨rfl, ?_⟩
  simp only [encodeWord, Instr.core, encodeCore]
  omega

theorem subu16r (rz rx ry : Nat) : Statement (.subu16r rz rx ry) := by
  intro h
  simp only [Instr.wf, Bool.and_eq_true, decide_eq_true_eq] at h
  refine .inl ⟨rfl, ?_⟩
  simp only [encodeWord, Instr.core, encodeCore]
  omega

theorem subu32 (rz rx ry : Nat) : Statement (.subu32 rz rx ry) := by
  intro h
  simp only [Instr.wf, Bool.and_eq_true, decide_eq_true_eq] at h
  refine .inr ⟨rfl, ?_⟩
  simp only [encodeWord, Instr.core, encodeCore]
  omega

theorem subc16 (rz rx : Nat) : Statement (.subc16 rz rx) := by
  intro h
  simp only [Instr.wf, Bool.and_eq_true, decide_eq_true_eq] at h
  refine .inl ⟨rfl, ?_⟩
  simp only [encodeWord, Instr.core, encodeCore]
  omega

theorem subc32 (rz rx ry : Nat) : Statement (.subc32 rz rx ry) := by
  intro h
  simp only [Instr.wf, Bool.and_eq_true, decide_eq_true_eq] at h
  refine .inr ⟨rfl, ?_⟩
  simp only [encodeWord, Instr.core, encodeCore]
  omega

theorem subi16 (rz imm8 : Nat) : Statement (.subi16 rz imm8) := by
  intro h
  simp only [Instr.wf, Bool.and_eq_true, decide_eq_true_eq] at h
  refine .inl ⟨rfl, ?_⟩
  simp only [encodeWord, Instr.core, encodeCore]
  omega

theorem subi16r (rz rx imm3 : Nat) : Statement (.subi16r rz rx imm3) := by
  intro h
  simp only [Instr.wf, Bool.and_eq_true, decide_eq_true_eq] at h
  refine .inl ⟨rfl, ?_⟩
  simp only [encodeWord, Instr.core, encodeCore]
  omega

theorem subi32 (rz rx imm12 : Nat) : Statement (.subi32 rz rx imm12) := by
  intro h
  simp only [Instr.wf, Bool.and_eq_true, decide_eq_true_eq] at h
  refine .inr ⟨rfl, ?_⟩
  simp only [encodeWord, Instr.core, encodeCore]
  omega

theorem subi16spsp (imm7 : Nat) : Statement (.subi16spsp imm7) := by
  intro h
  simp only [Instr.wf, decide_eq_true_eq] at h
  refine .inl ⟨rfl, ?_⟩
  simp only [encodeWord, Instr.core, encodeCore]
  omega

theorem rsub32 (rz rx ry : Nat) : Statement (.rsub32 rz rx ry) := by
  intro h
  simp only [Instr.wf, Bool.and_eq_true, decide_eq_true_eq] at h
  refine .inr ⟨rfl, ?_⟩
  simp only [encodeWord, Instr.core, encodeCore]
  omega

theorem ixh32 (rz rx ry : Nat) : Statement (.ixh32 rz rx ry) := by
  intro h
  simp only [Instr.wf, Bool.and_eq_true, decide_eq_true_eq] at h
  refine .inr ⟨rfl, ?_⟩
  simp only [encodeWord, Instr.core, encodeCore]
  omega

theorem ixw32 (rz rx ry : Nat) : Statement (.ixw32 rz rx ry) := by
  intro h
  simp only [Instr.wf, Bool.and_eq_true, decide_eq_true_eq] at h
  refine .inr ⟨rfl, ?_⟩
  simp only [encodeWord, Instr.core, encodeCore]
  omega

theorem incf32 (rz rx imm5 : Nat) : Statement (.incf32 rz rx imm5) := by
  intro h
  simp only [Instr.wf, Bool.and_eq_true, decide_eq_true_eq] at h
  refine .inr ⟨rfl, ?_⟩
  simp only [encodeWord, Instr.core, encodeCore]
  omega

theorem inct32 (rz rx imm5 : Nat) : Statement (.inct32 rz rx imm5) := by
  intro h
  simp only [Instr.wf, Bool.and_eq_true, decide_eq_true_eq] at h
  refine .inr ⟨rfl, ?_⟩
  simp only [encodeWord, Instr.core, encodeCore]
  omega

theorem decf32 (rz rx imm5 : Nat) : Statement (.decf32 rz rx imm5) := by
  intro h
  simp only [Instr.wf, Bool.and_eq_true, decide_eq_true_eq] at h
  refine .inr ⟨rfl, ?_⟩
  simp only [encodeWord, Instr.core, encodeCore]
  omega

theorem dect32 (rz rx imm5 : Nat) : Statement (.dect32 rz rx imm5) := by
  intro h
  simp only [Instr.wf, Bool.and_eq_true, decide_eq_true_eq] at h
  refine .inr ⟨rfl, ?_⟩
  simp only [encodeWord, Instr.core, encodeCore]
  omega

theorem and16 (rz rx : Nat) : Statement (.and16 rz rx) := by
  intro h
  simp only [Instr.wf, Bool.and_eq_true, decide_eq_true_eq] at h
  refine .inl ⟨rfl, ?_⟩
  simp only [encodeWord, Instr.core, encodeCore]
  omega

theorem and32 (rz rx ry : Nat) : Statement (.and32 rz rx ry) := by
  intro h
  simp only [Instr.wf, Bool.and_eq_true, decide_eq_true_eq] at h
  refine .inr ⟨rfl, ?_⟩
  simp only [encodeWord, Instr.core, encodeCore]
  omega

theorem andi32 (rz rx imm12 : Nat) : Statement (.andi32 rz rx imm12) := by
  intro h
  simp only [Instr.wf, Bool.and_eq_true, decide_eq_true_eq] at h
  refine .inr ⟨rfl, ?_⟩
  simp only [encodeWord, Instr.core, encodeCore]
  omega

theorem andn16 (rz rx : Nat) : Statement (.andn16 rz rx) := by
  intro h
  simp only [Instr.wf, Bool.and_eq_true, decide_eq_true_eq] at h
  refine .inl ⟨rfl, ?_⟩
  simp only [encodeWord, Instr.core, encodeCore]
  omega

theorem andn32 (rz rx ry : Nat) : Statement (.andn32 rz rx ry) := by
  intro h
  simp only [Instr.wf, Bool.and_eq_true, decide_eq_true_eq] at h
  refine .inr ⟨rfl, ?_⟩
  simp only [encodeWord, Instr.core, encodeCore]
  omega

theorem andni32 (rz rx imm12 : Nat) : Statement (.andni32 rz rx imm12) := by
  intro h
  simp only [Instr.wf, Bool.and_eq_true, decide_eq_true_eq] at h
  refine .inr ⟨rfl, ?_⟩
  simp only [encodeWord, Instr.core, encodeCore]
  omega

theorem or16 (rz rx : Nat) : Statement (.or16 rz rx) := by
  intro h
  simp only [Instr.wf, Bool.and_eq_true, decide_eq_true_eq] at h
  refine .inl ⟨rfl, ?_⟩
  simp only [encodeWord, Instr.core, encodeCore]
  omega

theorem or32 (rz rx ry : Nat) : Statement (.or32 rz rx ry) := by
  intro h
  simp only [Instr.wf, Bool.and_eq_true, decide_eq_true_eq] at h
  refine .inr ⟨rfl, ?_⟩
  simp only [encodeWord, Instr.core, encodeCore]
  omega

theorem ori32 (rz rx imm16 : Nat) : Statement (.ori32 rz rx imm16) := by
  intro h
  simp only [Instr.wf, Bool.and_eq_true, decide_eq_true_eq] at h
  refine .inr ⟨rfl, ?_⟩
  simp only [encodeWord, Instr.core, encodeCore]
  omega

theorem xor16 (rz rx : Nat) : Statement (.xor16 rz rx) := by
  intro h
  simp only [Instr.wf, Bool.and_eq_true, decide_eq_true_eq] at h
  refine .inl ⟨rfl, ?_⟩
  simp only [encodeWord, Instr.core, encodeCore]
  omega

theorem xor32 (rz rx ry : Nat) : Statement (.xor32 rz rx ry) := by
  intro h
  simp only [Instr.wf, Bool.and_eq_true, decide_eq_true_eq] at h
  refine .inr ⟨rfl, ?_⟩
  simp only [encodeWord, Instr.core, encodeCore]
  omega

theorem xori32 (rz rx imm12 : Nat) : Statement (.xori32 rz rx imm12) := by
  intro h
  simp only [Instr.wf, Bool.and_eq_true, decide_eq_true_eq] at h
  refine .inr ⟨rfl, ?_⟩
  simp only [encodeWord, Instr.core, encodeCore]
  omega

theorem nor16 (rz rx : Nat) : Statement (.nor16 rz rx) := by
  intro h
  simp only [Instr.wf, Bool.and_eq_true, decide_eq_true_eq] at h
  refine .inl ⟨rfl, ?_⟩
  simp only [encodeWord, Instr.core, encodeCore]
  omega

theorem nor32 (rz rx ry : Nat) : Statement (.nor32 rz rx ry) := by
  intro h
  simp only [Instr.wf, Bool.and_eq_true, decide_eq_true_eq] at h
  refine .inr ⟨rfl, ?_⟩
  simp only [encodeWord, Instr.core, encodeCore]
  omega

theorem not16 (rz : Nat) : Statement (.not16 rz) := by
  intro h
  simp only [Instr.wf, decide_eq_true_eq] at h
  refine .inl ⟨rfl, ?_⟩
  simp only [encodeWord, Instr.core, encodeCore]
  omega

theorem not32 (rz rx : Nat) : Statement (.not32 rz rx) := by
  intro h
  simp only [Instr.wf, Bool.and_eq_true, decide_eq_true_eq] at h
  refine .inr ⟨rfl, ?_⟩
  simp only [encodeWord, Instr.core, encodeCore]
  omega

theorem lsl16 (rz rx : Nat) : Statement (.lsl16 rz rx) := by
  intro h
  simp only [Instr.wf, Bool.and_eq_true, decide_eq_true_eq] at h
  refine .inl ⟨rfl, ?_⟩
  simp only [encodeWord, Instr.core, encodeCore]
  omega

theorem lsl32 (rz rx ry : Nat) : Statement (.lsl32 rz rx ry) := by
  intro h
  simp only [Instr.wf, Bool.and_eq_true, decide_eq_true_eq] at h
  refine .inr ⟨rfl, ?_⟩
  simp only [encodeWord, Instr.core, encodeCore]
  omega

theorem lsli16 (rz rx imm5 : Nat) : Statement (.lsli16 rz rx imm5) := by
  intro h
  simp only [Instr.wf, Bool.and_eq_true, decide_eq_true_eq] at h
  refine .inl ⟨rfl, ?_⟩
  simp only [encodeWord, Instr.core, encodeCore]
  omega

theorem lsli32 (rz rx imm5 : Nat) : Statement (.lsli32 rz rx imm5) := by
  intro h
  simp only [Instr.wf, Bool.and_eq_true, decide_eq_true_eq] at h
  refine .inr ⟨rfl, ?_⟩
  simp only [encodeWord, Instr.core, encodeCore]
  omega

theorem lslc32 (rz rx imm5 : Nat) : Statement (.lslc32 rz rx imm5) := by
  intro h
  simp only [Instr.wf, Bool.and_eq_true, decide_eq_true_eq] at h
  refine .inr ⟨rfl, ?_⟩
  simp only [encodeWord, Instr.core, encodeCore]
  omega

theorem lsr16 (rz rx : Nat) : Statement (.lsr16 rz rx) := by
  intro h
  simp only [Instr.wf, Bool.and_eq_true, decide_eq_true_eq] at h
  refine .inl ⟨rfl, ?_⟩
  simp only [encodeWord, Instr.core, encodeCore]
  omega

theorem lsr32 (rz rx ry : Nat) : Statement (.lsr32 rz rx ry) := by
  intro h
  simp only [Instr.wf, Bool.and_eq_true, decide_eq_true_eq] at h
  refine .inr ⟨rfl, ?_⟩
  simp only [encodeWord, Instr.core, encodeCore]
  omega

theorem lsri16 (rz rx imm5 : Nat) : Statement (.lsri16 rz rx imm5) := by
  intro h
  simp only [Instr.wf, Bool.and_eq_true, decide_eq_true_eq] at h
  refine .inl ⟨rfl, ?_⟩
  simp only [encodeWord, Instr.core, encodeCore]
  omega

theorem lsri32 (rz rx imm5 : Nat) : Statement (.lsri32 rz rx imm5) := by
  intro h
  simp only [Instr.wf, Bool.and_eq_true, decide_eq_true_eq] at h
  refine .inr ⟨rfl, ?_⟩
  simp only [encodeWord, Instr.core, encodeCore]
  omega

theorem lsrc32 (rz rx imm5 : Nat) : Statement (.lsrc32 rz rx imm5) := by
  intro h
  simp only [Instr.wf, Bool.and_eq_true, decide_eq_true_eq] at h
  refine .inr ⟨rfl, ?_⟩
  simp only [encodeWord, Instr.core, encodeCore]
  omega

theorem asr16 (rz rx : Nat) : Statement (.asr16 rz rx) := by
  intro h
  simp only [Instr.wf, Bool.and_eq_true, decide_eq_true_eq] at h
  refine .inl ⟨rfl, ?_⟩
  simp only [encodeWord, Instr.core, encodeCore]
  omega

theorem asr32 (rz rx ry : Nat) : Statement (.asr32 rz rx ry) := by
  intro h
  simp only [Instr.wf, Bool.and_eq_true, decide_eq_true_eq] at h
  refine .inr ⟨rfl, ?_⟩
  simp only [encodeWord, Instr.core, encodeCore]
  omega

theorem asri16 (rz rx imm5 : Nat) : Statement (.asri16 rz rx imm5) := by
  intro h
  simp only [Instr.wf, Bool.and_eq_true, decide_eq_true_eq] at h
  refine .inl ⟨rfl, ?_⟩
  simp only [encodeWord, Instr.core, encodeCore]
  omega

theorem asri32 (rz rx imm5 : Nat) : Statement (.asri32 rz rx imm5) := by
  intro h
  simp only [Instr.wf, Bool.and_eq_true, decide_eq_true_eq] at h
  refine .inr ⟨rfl, ?_⟩
  simp only [encodeWord, Instr.core, encodeCore]
  omega

theorem asrc32 (rz rx imm5 : Nat) : Statement (.asrc32 rz rx imm5) := by
  intro h
  simp only [Instr.wf, Bool.and_eq_true, decide_eq_true_eq] at h
  refine .inr ⟨rfl, ?_⟩
  simp only [encodeWord, Instr.core, encodeCore]
  omega

theorem rotl16 (rz rx : Nat) : Statement (.rotl16 rz rx) := by
  intro h
  simp only [Instr.wf, Bool.and_eq_true, decide_eq_true_eq] at h
  refine .inl ⟨rfl, ?_⟩
  simp only [encodeWord, Instr.core, encodeCore]
  omega

theorem rotl32 (rz rx ry : Nat) : Statement (.rotl32 rz rx ry) := by
  intro h
  simp only [Instr.wf, Bool.and_eq_true, decide_eq_true_eq] at h
  refine .inr ⟨rfl, ?_⟩
  simp only [encodeWord, Instr.core, encodeCore]
  omega

theorem rotli32 (rz rx imm5 : Nat) : Statement (.rotli32 rz rx imm5) := by
  intro h
  simp only [Instr.wf, Bool.and_eq_true, decide_eq_true_eq] at h
  refine .inr ⟨rfl, ?_⟩
  simp only [encodeWord, Instr.core, encodeCore]
  omega

theorem xsr32 (rz rx imm5 : Nat) : Statement (.xsr32 rz rx imm5) := by
  intro h
  simp only [Instr.wf, Bool.and_eq_true, decide_eq_true_eq] at h
  refine .inr ⟨rfl, ?_⟩
  simp only [encodeWord, Instr.core, encodeCore]
  omega

theorem cmphs16 (rx ry : Nat) : Statement (.cmphs16 rx ry) := by
  intro h
  simp only [Instr.wf, Bool.and_eq_true, decide_eq_true_eq] at h
  refine .inl ⟨rfl, ?_⟩
  simp only [encodeWord, Instr.core, encodeCore]
  omega

theorem cmphsi16 (rx imm5 : Nat) : Statement (.cmphsi16 rx imm5) := by
  intro h
  simp only [Instr.wf, Bool.and_eq_true, decide_eq_true_eq] at h
  refine .inl ⟨rfl, ?_⟩
  simp only [encodeWord, Instr.core, encodeCore]
  omega

theorem cmphsi32 (rx imm16 : Nat) : Statement (.cmphsi32 rx imm16) := by
  intro h
  simp only [Instr.wf, Bool.and_eq_true, decide_eq_true_eq] at h
  refine .inr ⟨rfl, ?_⟩
  simp only [encodeWord, Instr.core, encodeCore]
  omega

theorem cmplt16 (rx ry : Nat) : Statement (.cmplt16 rx ry) := by
  intro h
  simp only [Instr.wf, Bool.and_eq_true, decide_eq_true_eq] at h
  refine .inl ⟨rfl, ?_⟩
  simp only [encodeWord, Instr.core, encodeCore]
  omega

theorem cmplti16 (rx imm5 : Nat) : Statement (.cmplti16 rx imm5) := by
  intro h
  simp only [Instr.wf, Bool.and_eq_true, decide_eq_true_eq] at h
  refine .inl ⟨rfl, ?_⟩
  simp only [encodeWord, Instr.core, encodeCore]
  omega

theorem cmplti32 (rx imm16 : Nat) : Statement (.cmplti32 rx imm16) := by
  intro h
  simp only [Instr.wf, Bool.and_eq_true, decide_eq_true_eq] at h
  refine .inr ⟨rfl, ?_⟩
  simp only [encodeWord, Instr.core, encodeCore]
  omega

theorem cmpne16 (rx ry : Nat) : Statement (.cmpne16 rx ry) := by
  intro h
  simp only [Instr.wf, Bool.and_eq_true, decide_eq_true_eq] at h
  refine .inl ⟨rfl, ?_⟩
  simp only [encodeWord, Instr.core, encodeCore]
  omega

theorem cmpnei16 (rx imm5 : Nat) : Statement (.cmpnei16 rx imm5) := by
  intro h
  simp only [Instr.wf, Bool.and_eq_true, decide_eq_true_eq] at h
  refine .inl ⟨rfl, ?_⟩
  simp only [encodeWord, Instr.core, encodeCore]
  omega

theorem cmpnei32 (rx imm16 : Nat) : Statement (.cmpnei32 rx imm16) := by
  intro h
  simp only [Instr.wf, Bool.and_eq_true, decide_eq_true_eq] at h
  refine .inr ⟨rfl, ?_⟩
  simp only [encodeWord, Instr.core, encodeCore]
  omega

theorem tst16 (rx ry : Nat) : Statement (.tst16 rx ry) := by
  intro h
  simp only [Instr.wf, Bool.and_eq_true, decide_eq_true_eq] at h
  refine .inl ⟨rfl, ?_⟩
  simp only [encodeWord, Instr.core, encodeCore]
  omega

theorem tstnbz16 (rx : Nat) : Statement (.tstnbz16 rx) := by
  intro h
  simp only [Instr.wf, decide_eq_true_eq] at h
  refine .inl ⟨rfl, ?_⟩
  simp only [encodeWord, Instr.core, encodeCore]
  omega

theorem mov16 (rz rx : Nat) : Statement (.mov16 rz rx) := by
  intro h
  simp only [Instr.wf, Bool.and_eq_true, decide_eq_true_eq] at h
  refine .inl ⟨rfl, ?_⟩
  simp only [encodeWord, Instr.core, encodeCore]
  omega

theorem mov32 (rz rx : Nat) : Statement (.mov32 rz rx) := by
  intro h
  simp only [Instr.wf, Bool.and_eq_true, decide_eq_true_eq] at h
  refine .inr ⟨rfl, ?_⟩
  simp only [encodeWord, Instr.core, encodeCore]
  omega

theorem movf32 (rz rx : Nat) : Statement (.movf32 rz rx) := by
  intro h
  simp only [Instr.wf, Bool.and_eq_true, decide_eq_true_eq] at h
  refine .inr ⟨rfl, ?_⟩
  simp only [encodeWord, Instr.core, encodeCore]
  omega

theorem movt32 (rz rx : Nat) : Statement (.movt32 rz rx) := by
  intro h
  simp only [Instr.wf, Bool.and_eq_true, decide_eq_true_eq] at h
  refine .inr ⟨rfl, ?_⟩
  simp only [encodeWord, Instr.core, encodeCore]
  omega

theorem movi16 (rz imm8 : Nat) : Statement (.movi16 rz imm8) := by
  intro h
  simp only [Instr.wf, Bool.and_eq_true, decide_eq_true_eq] at h
  refine .inl ⟨rfl, ?_⟩
  simp only [encodeWord, Instr.core, encodeCore]
  omega

theorem movi32 (rz imm16 : Nat) : Statement (.movi32 rz imm16) := by
  intro h
  simp only [Instr.wf, Bool.and_eq_true, decide_eq_true_eq] at h
  refine .inr ⟨rfl, ?_⟩
  simp only [encodeWord, Instr.core, encodeCore]
  omega

theorem movih32 (rz imm16 : Nat) : Statement (.movih32 rz imm16) := by
  intro h
  simp only [Instr.wf, Bool.and_eq_true, decide_eq_true_eq] at h
  refine .inr ⟨rfl, ?_⟩
  simp only [encodeWord, Instr.core, encodeCore]
  omega

theorem mvc32 (rz : Nat) : Statement (.mvc32 rz) := by
  intro h
  simp only [Instr.wf, decide_eq_true_eq] at h
  refine .inr ⟨rfl, ?_⟩
  simp only [encodeWord, Instr.core, encodeCore]
  omega

theorem mvcv16 (rz : Nat) : Statement (.mvcv16 rz) := by
  intro h
  simp only [Instr.wf, decide_eq_true_eq] at h
  refine .inl ⟨rfl, ?_⟩
  simp only [encodeWord, Instr.core, encodeCore]
  omega

theorem lrw16 (rz imm1 imm7 : Nat) : Statement (.lrw16 rz imm1 imm7) := by
  intro h
  simp only [Instr.wf, Bool.and_eq_true, decide_eq_true_eq] at h
  refine .inl ⟨rfl, ?_⟩
  simp only [encodeWord, Instr.core, encodeCore]
  omega

theorem lrw32 (rz off16 : Nat) : Statement (.lrw32 rz off16) := by
  intro h
  simp only [Instr.wf, Bool.and_eq_true, decide_eq_true_eq] at h
  refine .inr ⟨rfl, ?_⟩
  simp only [encodeWord, Instr.core, encodeCore]
  omega

theorem grs32 (rz off18 : Nat) : Statement (.grs32 rz off18) := by
  intro h
  simp only [Instr.wf, Bool.and_eq_true, decide_eq_true_eq] at h
  refine .inr ⟨rfl, ?_⟩
  simp only [encodeWord, Instr.core, encodeCore]
  omega

theorem bclri16 (rz imm5 : Nat) : Statement (.bclri16 rz imm5) := by
  intro h
  simp only [Instr.wf, Bool.and_eq_true, decide_eq_true_eq] at h
  refine .inl ⟨rfl, ?_⟩
  simp only [encodeWord, Instr.core, encodeCore]
  omega

theorem bclri32 (rz rx imm5 : Nat) : Statement (.bclri32 rz rx imm5) := by
  intro h
  simp only [Instr.wf, Bool.and_eq_true, decide_eq_true_eq] at h
  refine .inr ⟨rfl, ?_⟩
  simp only [encodeWord, Instr.core, encodeCore]
  omega

theorem bseti16 (rz imm5 : Nat) : Statement (.bseti16 rz imm5) := by
  intro h
  simp only [Instr.wf, Bool.and_eq_true, decide_eq_true_eq] at h
  refine .inl ⟨rfl, ?_⟩
  simp only [encodeWord, Instr.core, encodeCore]
  omega

theorem bseti32 (rz rx imm5 : Nat) : Statement (.bseti32 rz rx imm5) := by
  intro h
  simp only [Instr.wf, Bool.and_eq_true, decide_eq_true_eq] at h
  refine .inr ⟨rfl, ?_⟩
  simp only [encodeWord, Instr.core, encodeCore]
  omega

theorem btsti16 (rx imm5 : Nat) : Statement (.btsti16 rx imm5) := by
  intro h
  simp only [Instr.wf, Bool.and_eq_true, decide_eq_true_eq] at h
  refine .inl ⟨rfl, ?_⟩
  simp only [encodeWord, Instr.core, encodeCore]
  omega

theorem btsti32 (rx imm5 : Nat) : Statement (.btsti32 rx imm5) := by
  intro h
  simp only [Instr.wf, Bool.and_eq_true, decide_eq_true_eq] at h
  refine .inr ⟨rfl, ?_⟩
  simp only [encodeWord, Instr.core, encodeCore]
  omega

theorem bgeni32 (rz imm5 : Nat) : Statement (.bgeni32 rz imm5) := by
  intro h
  refine .inr ⟨rfl, ?_⟩
  simp only [Instr.wf, Bool.and_eq_true, decide_eq_true_eq] at h
  have h1 : imm5 < 16 → 2 ^ imm5 ≤ 2 ^ 15 := fun _ => Nat.pow_le_pow_right (by omega) (by omega)
  have h2 : 2 ^ (imm5 - 16) ≤ 2 ^ 15 := Nat.pow_le_pow_right (by omega) (by omega)
  by_cases h16 : imm5 < 16
  · have := h1 h16
    simp only [encodeWord, Instr.core, h16, if_true, encodeCore]
    generalize 2 ^ imm5 = d at *
    omega
  · simp only [encodeWord, Instr.core, h16, if_false, encodeCore]
    generalize 2 ^ (imm5 - 16) = d at *
    omega

theorem bmaski32 (rz imm5 : Nat) : Statement (.bmaski32 rz imm5) := by
  intro h
  simp only [Instr.wf, Bool.and_eq_true, decide_eq_true_eq] at h
  refine .inr ⟨rfl, ?_⟩
  simp only [encodeWord, Instr.core, encodeCore]
  omega

theorem ff0 (rz rx : Nat) : Statement (.ff0 rz rx) := by
  intro h
  simp only [Instr.wf, Bool.and_eq_true, decide_eq_true_eq] at h
  refine .inr ⟨rfl, ?_⟩
  simp only [encodeWord, Instr.core, encodeCore]
  omega

theorem ff1 (rz rx : Nat) : Statement (.ff1 rz rx) := by
  intro h
  simp only [Instr.wf, Bool.and_eq_true, decide_eq_true_eq] at h
  refine .inr ⟨rfl, ?_⟩
  simp only [encodeWord, Instr.core, encodeCore]
  omega

theorem xtrb0 (rz rx : Nat) : Statement (.xtrb0 rz rx) := by
  intro h
  simp only [Instr.wf, Bool.and_eq_true, decide_eq_true_eq] at h
  refine .inr ⟨rfl, ?_⟩
  simp only [encodeWord, Instr.core, encodeCore]
  omega

theorem xtrb1 (rz rx : Nat) : Statement (.xtrb1 rz rx) := by
  intro h
  simp only [Instr.wf, Bool.and_eq_true, decide_eq_true_eq] at h
  refine .inr ⟨rfl, ?_⟩
  simp only [encodeWord, Instr.core, encodeCore]
  omega

theorem xtrb2 (rz rx : Nat) : Statement (.xtrb2 rz rx) := by
  intro h
  simp only [Instr.wf, Bool.and_eq_true, decide_eq_true_eq] at h
  refine .inr ⟨rfl, ?_⟩
  simp only [encodeWord, Instr.core, encodeCore]
  omega

theorem xtrb3 (rz rx : Nat) : Statement (.xtrb3 rz rx) := by
  intro h
  simp only [Instr.wf, Bool.and_eq_true, decide_eq_true_eq] at h
  refine .inr ⟨rfl, ?_⟩
  simp only [encodeWord, Instr.core, encodeCore]
  omega

theorem zextb16 (rz rx : Nat) : Statement (.zextb16 rz rx) := by
  intro h
  simp only [Instr.wf, Bool.and_eq_true, decide_eq_true_eq] at h
  refine .inl ⟨rfl, ?_⟩
  simp only [encodeWord, Instr.core, encodeCore]
  omega

theorem zexth16 (rz rx : Nat) : Statement (.zexth16 rz rx) := by
  intro h
  simp only [Instr.wf, Bool.and_eq_true, decide_eq_true_eq] at h
  refine .inl ⟨rfl, ?_⟩
  simp only [encodeWord, Instr.core, encodeCore]
  omega

theorem sextb16 (rz rx : Nat) : Statement (.sextb16 rz rx) := by
  intro h
  simp only [Instr.wf, Bool.and_eq_true, decide_eq_true_eq] at h
  refine .inl ⟨rfl, ?_⟩
  simp only [encodeWord, Instr.core, encodeCore]
  omega

theorem sexth16 (rz rx : Nat) : Statement (.sexth16 rz rx) := by
  intro h
  simp only [Instr.wf, Bool.and_eq_true, decide_eq_true_eq] at h
  refine .inl ⟨rfl, ?_⟩
  simp only [encodeWord, Instr.core, encodeCore]
  omega

theorem mult16 (rz rx : Nat) : Statement (.mult16 rz rx) := by
  intro h
  simp only [Instr.wf, Bool.and_eq_true, decide_eq_true_eq] at h
  refine .inl ⟨rfl, ?_⟩
  simp only [encodeWord, Instr.core, encodeCore]
  omega

theorem mult32 (rz rx ry : Nat) : Statement (.mult32 rz rx ry) := by
  intro h
  simp only [Instr.wf, Bool.and_eq_true, decide_eq_true_eq] at h
  refine .inr ⟨rfl, ?_⟩
  simp only [encodeWord, Instr.core, encodeCore]
  omega

theorem revb16 (rz rx : Nat) : Statement (.revb16 rz rx) := by
  intro h
  simp only [Instr.wf, Bool.and_eq_true, decide_eq_true_eq] at h
  refine .inl ⟨rfl, ?_⟩
  simp only [encodeWord, Instr.core, encodeCore]
  omega

theorem revh16 (rz rx : Nat) : Statement (.revh16 rz rx) := by
  intro h
  simp only [Instr.wf, Bool.and_eq_true, decide_eq_true_eq] at h
  refine .inl ⟨rfl, ?_⟩
  simp only [encodeWord, Instr.core, encodeCore]
  omega

theorem br16 (off10 : Nat) : Statement (.br16 off10) := by
  intro h
  simp only [Instr.wf, decide_eq_true_eq] at h
  refine .inl ⟨rfl, ?_⟩
  simp only [encodeWord, Instr.core, encodeCore]
  omega

theorem br32 (off16 : Nat) : Statement (.br32 off16) := by
  intro h
  simp only [Instr.wf, decide_eq_true_eq] at h
  refine .inr ⟨rfl, ?_⟩
  simp only [encodeWord, Instr.core, encodeCore]
  omega

theorem bt16 (off10 : Nat) : Statement (.bt16 off10) := by
  intro h
  simp only [Instr.wf, decide_eq_true_eq] at h
  refine .inl ⟨rfl, ?_⟩
  simp only [encodeWord, Instr.core, encodeCore]
  omega

theorem bt32 (off16 : Nat) : Statement (.bt32 off16) := by
  intro h
  simp only [Instr.wf, decide_eq_true_eq] at h
  refine .inr ⟨rfl, ?_⟩
  simp only [encodeWord, Instr.core, encodeCore]
  omega

theorem bf16 (off10 : Nat) : Statement (.bf16 off10) := by
  intro h
  simp only [Instr.wf, decide_eq_true_eq] at h
  refine .inl ⟨rfl, ?_⟩
  simp only [encodeWord, Instr.core, encodeCore]
  omega

theorem jmp16 (rx : Nat) : Statement (.jmp16 rx) := by
  intro h
  simp only [Instr.wf, decide_eq_true_eq] at h
  refine .inl ⟨rfl, ?_⟩
  simp only [encodeWord, Instr.core, encodeCore]
  omega

theorem bf32 (off16 : Nat) : Statement (.bf32 off16) := by
  intro h
  simp only [Instr.wf, decide_eq_true_eq] at h
  refine .inr ⟨rfl, ?_⟩
  simp only [encodeWord, Instr.core, encodeCore]
  omega

theorem jmpix16 (rx imm2 : Nat) : Statement (.jmpix16 rx imm2) := by
  intro h
  simp only [Instr.wf, Bool.and_eq_true, decide_eq_true_eq] at h
  refine .inl ⟨rfl, ?_⟩
  simp only [encodeWord, Instr.core, encodeCore]
  omega

theorem jsr16 (rx : Nat) : Statement (.jsr16 rx) := by
  intro h
  simp only [Instr.wf, decide_eq_true_eq] at h
  refine .inl ⟨rfl, ?_⟩
  simp only [encodeWord, Instr.core, encodeCore]
  omega

theorem bsr32 (off26 : Nat) : Statement (.bsr32 off26) := by
  intro h
  simp only [Instr.wf, decide_eq_true_eq] at h
  refine .inr ⟨rfl, ?_⟩
  simp only [encodeWord, Instr.core, encodeCore]
  omega

theorem rts16 : Statement .rts16 :=
  fun _ => .inl ⟨rfl, by decide⟩

theorem ld16b (rz rx off5 : Nat) : Statement (.ld16b rz rx off5) := by
  intro h
  simp only [Instr.wf, Bool.and_eq_true, decide_eq_true_eq] at h
  refine .inl ⟨rfl, ?_⟩
  simp only [encodeWord, Instr.core, encodeCore]
  omega

theorem ld32b (rz rx off12 : Nat) : Statement (.ld32b rz rx off12) := by
  intro h
  simp only [Instr.wf, Bool.and_eq_true, decide_eq_true_eq] at h
  refine .inr ⟨rfl, ?_⟩
  simp only [encodeWord, Instr.core, encodeCore]
  omega

theorem ld32bs (rz rx off12 : Nat) : Statement (.ld32bs rz rx off12) := by
  intro h
  simp only [Instr.wf, Bool.and_eq_true, decide_eq_true_eq] at h
  refine .inr ⟨rfl, ?_⟩
  simp only [encodeWord, Instr.core, encodeCore]
  omega

theorem ld16h (rz rx off5 : Nat) : Statement (.ld16h rz rx off5) := by
  intro h
  simp only [Instr.wf, Bool.and_eq_true, decide_eq_true_eq] at h
  refine .inl ⟨rfl, ?_⟩
  simp only [encodeWord, Instr.core, encodeCore]
  omega

theorem ld32h (rz rx off12 : Nat) : Statement (.ld32h rz rx off12) := by
  intro h
  simp only [Instr.wf, Bool.and_eq_true, decide_eq_true_eq] at h
  refine .inr ⟨rfl, ?_⟩
  simp only [encodeWord, Instr.core, encodeCore]
  omega

theorem ld32hs (rz rx off12 : Nat) : Statement (.ld32hs rz rx off12) := by
  intro h
  simp only [Instr.wf, Bool.and_eq_true, decide_eq_true_eq] at h
  refine .inr ⟨rfl, ?_⟩
  simp only [encodeWord, Instr.core, encodeCore]
  omega

theorem ld16w (rz rx imm5 : Nat) : Statement (.ld16w rz rx imm5) := by
  intro h
  simp only [Instr.wf, Bool.and_eq_true, decide_eq_true_eq] at h
  refine .inl ⟨rfl, ?_⟩
  simp only [encodeWord, Instr.core, encodeCore]
  omega

theorem ld16wsp (rz imm8 : Nat) : Statement (.ld16wsp rz imm8) := by
  intro h
  simp only [Instr.wf, Bool.and_eq_true, decide_eq_true_eq] at h
  refine .inl ⟨rfl, ?_⟩
  simp only [encodeWord, Instr.core, encodeCore]
  omega

theorem ld32w (rz rx off12 : Nat) : Statement (.ld32w rz rx off12) := by
  intro h
  simp only [Instr.wf, Bool.and_eq_true, decide_eq_true_eq] at h
  refine .inr ⟨rfl, ?_⟩
  simp only [encodeWord, Instr.core, encodeCore]
  omega

theorem st16b (rz rx imm5 : Nat) : Statement (.st16b rz rx imm5) := by
  intro h
  simp only [Instr.wf, Bool.and_eq_true, decide_eq_true_eq] at h
  refine .inl ⟨rfl, ?_⟩
  simp only [encodeWord, Instr.core, encodeCore]
  omega

theorem st32b (rz rx off12 : Nat) : Statement (.st32b rz rx off12) := by
  intro h
  simp only [Instr.wf, Bool.and_eq_true, decide_eq_true_eq] at h
  refine .inr ⟨rfl, ?_⟩
  simp only [encodeWord, Instr.core, encodeCore]
  omega

theorem st16h (rz rx imm5 : Nat) : Statement (.st16h rz rx imm5) := by
  intro h
  simp only [Instr.wf, Bool.and_eq_true, decide_eq_true_eq] at h
  refine .inl ⟨rfl, ?_⟩
  simp only [encodeWord, Instr.core, encodeCore]
  omega

theorem st32h (rz rx off12 : Nat) : Statement (.st32h rz rx off12) := by
  intro h
  simp only [Instr.wf, Bool.and_eq_true, decide_eq_true_eq] at h
  refine .inr ⟨rfl, ?_⟩
  simp only [encodeWord, Instr.core, encodeCore]
  omega

theorem st16w (rz rx imm5 : Nat) : Statement (.st16w rz rx imm5) := by
  intro h
  simp only [Instr.wf, Bool.and_eq_true, decide_eq_true_eq] at h
  refine .inl ⟨rfl, ?_⟩
  simp only [encodeWord, Instr.core, encodeCore]
  omega

theorem st16wsp (rz imm8 : Nat) : Statement (.st16wsp rz imm8) := by
  intro h
  simp only [Instr.wf, Bool.and_eq_true, decide_eq_true_eq] at h
  refine .inl ⟨rfl, ?_⟩
  simp only [encodeWord, Instr.core, encodeCore]
  omega

theorem st32w (rz rx off12 : Nat) : Statement (.st32w rz rx off12) := by
  intro h
  simp only [Instr.wf, Bool.and_eq_true, decide_eq_true_eq] at h
  refine .inr ⟨rfl, ?_⟩
  simp only [encodeWord, Instr.core, encodeCore]
  omega

theorem ldm32 (ry rx imm5 : Nat) : Statement (.ldm32 ry rx imm5) := by
  intro h
  simp only [Instr.wf, Bool.and_eq_true, decide_eq_true_eq] at h
  refine .inr ⟨rfl, ?_⟩
  simp only [encodeWord, Instr.core, encodeCore]
  omega

theorem ldq32 (rx : Nat) : Statement (.ldq32 rx) := by
  intro h
  simp only [Instr.wf, decide_eq_true_eq] at h
  refine .inr ⟨rfl, ?_⟩
  simp only [encodeWord, Instr.core, encodeCore]
  omega

theorem stm32 (ry rx imm5 : Nat) : Statement (.stm32 ry rx imm5) := by
  intro h
  simp only [Instr.wf, Bool.and_eq_true, decide_eq_true_eq] at h
  refine .inr ⟨rfl, ?_⟩
  simp only [encodeWord, Instr.core, encodeCore]
  omega

theorem stq32 (rx : Nat) : Statement (.stq32 rx) := by
  intro h
  simp only [Instr.wf, decide_eq_true_eq] at h
  refine .inr ⟨rfl, ?_⟩
  simp only [encodeWord, Instr.core, encodeCore]
  omega

theorem push16 (r15 list1 : Nat) : Statement (.push16 r15 list1) := by
  intro h
  simp only [Instr.wf, Bool.and_eq_true, decide_eq_true_eq] at h
  refine .inl ⟨rfl, ?_⟩
  simp only [encodeWord, Instr.core, encodeCore]
  omega

theorem pop16 (r15 list1 : Nat) : Statement (.pop16 r15 list1) := by
  intro h
  simp only [Instr.wf, Bool.and_eq_true, decide_eq_true_eq] at h
  refine .inl ⟨rfl, ?_⟩
  simp only [encodeWord, Instr.core, encodeCore]
  omega

theorem ipush16 : Statement .ipush16 :=
  fun _ => .inl ⟨rfl, by decide⟩

theorem ipop16 : Statement .ipop16 :=
  fun _ => .inl ⟨rfl, by decide⟩

theorem nie16 : Statement .nie16 :=
  fun _ => .inl ⟨rfl, by decide⟩

theorem nir16 : Statement .nir16 :=
  fun _ => .inl ⟨rfl, by decide⟩

theorem bpush16h (rz : Nat) : Statement (.bpush16h rz) := by
  intro h
  simp only [Instr.wf, decide_eq_true_eq] at h
  refine .inl ⟨rfl, ?_⟩
  simp only [encodeWord, Instr.core, encodeCore]
  omega

theorem bpush16w (rz : Nat) : Statement (.bpush16w rz) := by
  intro h
  simp only [Instr.wf, decide_eq_true_eq] at h
  refine .inl ⟨rfl, ?_⟩
  simp only [encodeWord, Instr.core, encodeCore]
  omega

theorem bpop16h (rz : Nat) : Statement (.bpop16h rz) := by
  intro h
  simp only [Instr.wf, decide_eq_true_eq] at h
  refine .inl ⟨rfl, ?_⟩
  simp only [encodeWord, Instr.core, encodeCore]
  omega

theorem bpop16w (rz : Nat) : Statement (.bpop16w rz) := by
  intro h
  simp only [Instr.wf, decide_eq_true_eq] at h
  refine .inl ⟨rfl, ?_⟩
  simp only [encodeWord, Instr.core, encodeCore]
  omega

theorem mfcr32 (rz crx sel : Nat) : Statement (.mfcr32 rz crx sel) := by
  intro h
  simp only [Instr.wf, Bool.and_eq_true, decide_eq_true_eq] at h
  refine .inr ⟨rfl, ?_⟩
  simp only [encodeWord, Instr.core, encodeCore]
  omega

theorem mtcr32 (rx crz sel : Nat) : Statement (.mtcr32 rx crz sel) := by
  intro h
  simp only [Instr.wf, Bool.and_eq_true, decide_eq_true_eq] at h
  refine .inr ⟨rfl, ?_⟩
  simp only [encodeWord, Instr.core, encodeCore]
  omega

theorem rte32 : Statement .rte32 :=
  fun _ => .inr ⟨rfl, by decide⟩

theorem stop32 : Statement .stop32 :=
  fun _ => .inr ⟨rfl, by decide⟩

theorem doze32 : Statement .doze32 :=
  fun _ => .inr ⟨rfl, by decide⟩

theorem sync32 : Statement .sync32 :=
  fun _ => .inr ⟨rfl, by decide⟩

theorem wait32 : Statement .wait32 :=
  fun _ => .inr ⟨rfl, by decide⟩

theorem trap32 (n : Nat) : Statement (.trap32 n) := by
  intro h
  simp only [Instr.wf, decide_eq_true_eq] at h
  refine .inr ⟨rfl, ?_⟩
  simp only [encodeWord, Instr.core, encodeCore]
  omega

theorem bmset32 : Statement .bmset32 :=
  fun _ => .inr ⟨rfl, by decide⟩

theorem bmclr32 : Statement .bmclr32 :=
  fun _ => .inr ⟨rfl, by decide⟩

theorem bkpt16 : Statement .bkpt16 :=
  fun _ => .inl ⟨rfl, by decide⟩

end Sys2Proof.Laws.Length
end

