-- ==== Sys2Proof/Tests/Slice0.lean ====
section
/-! SUPPORT. Tests: ill-formed terms are refused, words written out from the encoding figures decode, one step of each
instruction gives what the spec's vectors (96_vectors_dataproc.md, 97_vectors_control_memory_system.md) give, and every
statement's hypotheses are met somewhere. -/

set_option maxRecDepth 8000
set_option Elab.async false

namespace Sys2Proof.Tests

open Sys2Proof Sys2Proof.Machine

/-! ### Ill-formed terms: each operand one above what its field holds -/

theorem test_wf_refuses_addsub : ([
    .addu16 0x10 0xF, .addu16 0xF 0x10, .addu16r 8 7 7, .addu16r 7 8 7, .addu16r 7 7 8, .addu32 0x20 0x1F 0x1F,
    .addu32 0x1F 0x20 0x1F, .addu32 0x1F 0x1F 0x20, .addc16 0x10 0xF, .addc16 0xF 0x10, .addc32 0x20 0x1F 0x1F,
    .addc32 0x1F 0x20 0x1F, .addc32 0x1F 0x1F 0x20, .addi16 8 0xFF, .addi16 7 0x100, .addi16r 8 7 7,
    .addi16r 7 8 7, .addi16r 7 7 8, .addi32 0x20 0x1F 0xFFF, .addi32 0x1F 0x20 0xFFF, .addi32 0x1F 0x1F 0x1000,
    .addi16sp 8 0xFF, .addi16sp 7 0x100, .addi16spsp 0x80, .subu16 0x10 0xF, .subu16 0xF 0x10, .subu16r 8 7 7,
    .subu16r 7 8 7, .subu16r 7 7 8, .subu32 0x20 0x1F 0x1F, .subu32 0x1F 0x20 0x1F, .subu32 0x1F 0x1F 0x20,
    .subc16 0x10 0xF, .subc16 0xF 0x10, .subc32 0x20 0x1F 0x1F, .subc32 0x1F 0x20 0x1F, .subc32 0x1F 0x1F 0x20,
    .subi16 8 0xFF, .subi16 7 0x100, .subi16r 8 7 7, .subi16r 7 8 7, .subi16r 7 7 8, .subi32 0x20 0x1F 0xFFF,
    .subi32 0x1F 0x20 0xFFF, .subi32 0x1F 0x1F 0x1000, .subi16spsp 0x80, .rsub32 0x20 0x1F 0x1F,
    .rsub32 0x1F 0x20 0x1F, .rsub32 0x1F 0x1F 0x20, .ixh32 0x20 0x1F 0x1F, .ixh32 0x1F 0x20 0x1F,
    .ixh32 0x1F 0x1F 0x20, .ixw32 0x20 0x1F 0x1F, .ixw32 0x1F 0x20 0x1F, .ixw32 0x1F 0x1F 0x20,
    .incf32 0x20 0x1F 0x1F, .incf32 0x1F 0x20 0x1F, .incf32 0x1F 0x1F 0x20, .inct32 0x20 0x1F 0x1F,
    .inct32 0x1F 0x20 0x1F] : List Instr).all (fun i => !i.wf) = true := by decide

theorem test_wf_refuses_addsub_2 : ([
    .inct32 0x1F 0x1F 0x20, .decf32 0x20 0x1F 0x1F, .decf32 0x1F 0x20 0x1F, .decf32 0x1F 0x1F 0x20,
    .dect32 0x20 0x1F 0x1F, .dect32 0x1F 0x20 0x1F, .dect32 0x1F 0x1F 0x20] : List Instr).all (fun i => !i.wf) = true := by decide

theorem test_wf_allows_addsub : ([
    .addu16 0xF 0xF, .addu16r 7 7 7, .addu32 0x1F 0x1F 0x1F, .addc16 0xF 0xF, .addc32 0x1F 0x1F 0x1F,
    .addi16 7 0xFF, .addi16r 7 7 7, .addi32 0x1F 0x1F 0xFFF, .addi16sp 7 0xFF, .addi16spsp 0x7F,
    .subu16 0xF 0xF, .subu16r 7 7 7, .subu32 0x1F 0x1F 0x1F, .subc16 0xF 0xF, .subc32 0x1F 0x1F 0x1F,
    .subi16 7 0xFF, .subi16r 7 7 7, .subi32 0x1F 0x1F 0xFFF, .subi16spsp 0x7F, .rsub32 0x1F 0x1F 0x1F,
    .ixh32 0x1F 0x1F 0x1F, .ixw32 0x1F 0x1F 0x1F, .incf32 0x1F 0x1F 0x1F, .inct32 0x1F 0x1F 0x1F,
    .decf32 0x1F 0x1F 0x1F, .dect32 0x1F 0x1F 0x1F] : List Instr).all (fun i => i.wf) = true := by decide

theorem test_wf_refuses_logic : ([
    .and16 0x10 0xF, .and16 0xF 0x10, .and32 0x20 0x1F 0x1F, .and32 0x1F 0x20 0x1F, .and32 0x1F 0x1F 0x20,
    .andi32 0x20 0x1F 0xFFF, .andi32 0x1F 0x20 0xFFF, .andi32 0x1F 0x1F 0x1000, .andn16 0x10 0xF,
    .andn16 0xF 0x10, .andn32 0x20 0x1F 0x1F, .andn32 0x1F 0x20 0x1F, .andn32 0x1F 0x1F 0x20,
    .andni32 0x20 0x1F 0xFFF, .andni32 0x1F 0x20 0xFFF, .andni32 0x1F 0x1F 0x1000, .or16 0x10 0xF,
    .or16 0xF 0x10, .or32 0x20 0x1F 0x1F, .or32 0x1F 0x20 0x1F, .or32 0x1F 0x1F 0x20, .ori32 0x20 0x1F 0xFFFF,
    .ori32 0x1F 0x20 0xFFFF, .ori32 0x1F 0x1F 0x10000, .xor16 0x10 0xF, .xor16 0xF 0x10, .xor32 0x20 0x1F 0x1F,
    .xor32 0x1F 0x20 0x1F, .xor32 0x1F 0x1F 0x20, .xori32 0x20 0x1F 0xFFF, .xori32 0x1F 0x20 0xFFF,
    .xori32 0x1F 0x1F 0x1000, .nor16 0x10 0xF, .nor16 0xF 0x10, .nor32 0x20 0x1F 0x1F, .nor32 0x1F 0x20 0x1F,
    .nor32 0x1F 0x1F 0x20, .not16 0x10, .not32 0x20 0x1F, .not32 0x1F 0x20] : List Instr).all (fun i => !i.wf) = true := by decide

theorem test_wf_allows_logic : ([
    .and16 0xF 0xF, .and32 0x1F 0x1F 0x1F, .andi32 0x1F 0x1F 0xFFF, .andn16 0xF 0xF, .andn32 0x1F 0x1F 0x1F,
    .andni32 0x1F 0x1F 0xFFF, .or16 0xF 0xF, .or32 0x1F 0x1F 0x1F, .ori32 0x1F 0x1F 0xFFFF, .xor16 0xF 0xF,
    .xor32 0x1F 0x1F 0x1F, .xori32 0x1F 0x1F 0xFFF, .nor16 0xF 0xF, .nor32 0x1F 0x1F 0x1F, .not16 0xF,
    .not32 0x1F 0x1F] : List Instr).all (fun i => i.wf) = true := by decide

theorem test_wf_refuses_shift : ([
    .lsl16 0x10 0xF, .lsl16 0xF 0x10, .lsl32 0x20 0x1F 0x1F, .lsl32 0x1F 0x20 0x1F, .lsl32 0x1F 0x1F 0x20,
    .lsli16 8 7 0x1F, .lsli16 7 8 0x1F, .lsli16 7 7 0x20, .lsli32 0x20 0x1F 0x1F, .lsli32 0x1F 0x20 0x1F,
    .lsli32 0x1F 0x1F 0x20, .lslc32 0x20 0x1F 0x1F, .lslc32 0x1F 0x20 0x1F, .lslc32 0x1F 0x1F 0x20,
    .lsr16 0x10 0xF, .lsr16 0xF 0x10, .lsr32 0x20 0x1F 0x1F, .lsr32 0x1F 0x20 0x1F, .lsr32 0x1F 0x1F 0x20,
    .lsri16 8 7 0x1F, .lsri16 7 8 0x1F, .lsri16 7 7 0x20, .lsri32 0x20 0x1F 0x1F, .lsri32 0x1F 0x20 0x1F,
    .lsri32 0x1F 0x1F 0x20, .lsrc32 0x20 0x1F 0x1F, .lsrc32 0x1F 0x20 0x1F, .lsrc32 0x1F 0x1F 0x20,
    .asr16 0x10 0xF, .asr16 0xF 0x10, .asr32 0x20 0x1F 0x1F, .asr32 0x1F 0x20 0x1F, .asr32 0x1F 0x1F 0x20,
    .asri16 8 7 0x1F, .asri16 7 8 0x1F, .asri16 7 7 0x20, .asri32 0x20 0x1F 0x1F, .asri32 0x1F 0x20 0x1F,
    .asri32 0x1F 0x1F 0x20, .asrc32 0x20 0x1F 0x1F, .asrc32 0x1F 0x20 0x1F, .asrc32 0x1F 0x1F 0x20,
    .rotl16 0x10 0xF, .rotl16 0xF 0x10, .rotl32 0x20 0x1F 0x1F, .rotl32 0x1F 0x20 0x1F, .rotl32 0x1F 0x1F 0x20,
    .rotli32 0x20 0x1F 0x1F, .rotli32 0x1F 0x20 0x1F, .rotli32 0x1F 0x1F 0x20, .xsr32 0x20 0x1F 0x1F,
    .xsr32 0x1F 0x20 0x1F, .xsr32 0x1F 0x1F 0x20] : List Instr).all (fun i => !i.wf) = true := by decide

theorem test_wf_allows_shift : ([
    .lsl16 0xF 0xF, .lsl32 0x1F 0x1F 0x1F, .lsli16 7 7 0x1F, .lsli32 0x1F 0x1F 0x1F, .lslc32 0x1F 0x1F 0x1F,
    .lsr16 0xF 0xF, .lsr32 0x1F 0x1F 0x1F, .lsri16 7 7 0x1F, .lsri32 0x1F 0x1F 0x1F, .lsrc32 0x1F 0x1F 0x1F,
    .asr16 0xF 0xF, .asr32 0x1F 0x1F 0x1F, .asri16 7 7 0x1F, .asri32 0x1F 0x1F 0x1F, .asrc32 0x1F 0x1F 0x1F,
    .rotl16 0xF 0xF, .rotl32 0x1F 0x1F 0x1F, .rotli32 0x1F 0x1F 0x1F, .xsr32 0x1F 0x1F 0x1F] : List Instr).all (fun i => i.wf) = true := by decide

theorem test_wf_refuses_compare : ([
    .cmphs16 0x10 0xF, .cmphs16 0xF 0x10, .cmphsi16 8 0x1F, .cmphsi16 7 0x20, .cmphsi32 0x20 0xFFFF,
    .cmphsi32 0x1F 0x10000, .cmplt16 0x10 0xF, .cmplt16 0xF 0x10, .cmplti16 8 0x1F, .cmplti16 7 0x20,
    .cmplti32 0x20 0xFFFF, .cmplti32 0x1F 0x10000, .cmpne16 0x10 0xF, .cmpne16 0xF 0x10, .cmpnei16 8 0x1F,
    .cmpnei16 7 0x20, .cmpnei32 0x20 0xFFFF, .cmpnei32 0x1F 0x10000, .tst16 0x10 0xF, .tst16 0xF 0x10,
    .tstnbz16 0x10] : List Instr).all (fun i => !i.wf) = true := by decide

theorem test_wf_allows_compare : ([
    .cmphs16 0xF 0xF, .cmphsi16 7 0x1F, .cmphsi32 0x1F 0xFFFF, .cmplt16 0xF 0xF, .cmplti16 7 0x1F,
    .cmplti32 0x1F 0xFFFF, .cmpne16 0xF 0xF, .cmpnei16 7 0x1F, .cmpnei32 0x1F 0xFFFF, .tst16 0xF 0xF,
    .tstnbz16 0xF] : List Instr).all (fun i => i.wf) = true := by decide

theorem test_wf_refuses_transfer : ([
    .mov16 0x10 0xF, .mov16 0xF 0x10, .mov32 0x20 0x1F, .mov32 0x1F 0x20, .movf32 0x20 0x1F, .movf32 0x1F 0x20,
    .movt32 0x20 0x1F, .movt32 0x1F 0x20, .movi16 8 0xFF, .movi16 7 0x100, .movi32 0x20 0xFFFF,
    .movi32 0x1F 0x10000, .movih32 0x20 0xFFFF, .movih32 0x1F 0x10000, .mvc32 0x20, .mvcv16 0x10,
    .lrw16 8 1 0x7F, .lrw16 7 2 0x7F, .lrw16 7 1 0x80, .lrw32 0x20 0xFFFF, .lrw32 0x1F 0x10000,
    .grs32 0x20 0x3FFFF, .grs32 0x1F 0x40000] : List Instr).all (fun i => !i.wf) = true := by decide

theorem test_wf_allows_transfer : ([
    .mov16 0xF 0xF, .mov32 0x1F 0x1F, .movf32 0x1F 0x1F, .movt32 0x1F 0x1F, .movi16 7 0xFF,
    .movi32 0x1F 0xFFFF, .movih32 0x1F 0xFFFF, .mvc32 0x1F, .mvcv16 0xF, .lrw16 7 1 0x7F, .lrw32 0x1F 0xFFFF,
    .grs32 0x1F 0x3FFFF] : List Instr).all (fun i => i.wf) = true := by decide

theorem test_wf_refuses_bitops : ([
    .bclri16 8 0x1F, .bclri16 7 0x20, .bclri32 0x20 0x1F 0x1F, .bclri32 0x1F 0x20 0x1F,
    .bclri32 0x1F 0x1F 0x20, .bseti16 8 0x1F, .bseti16 7 0x20, .bseti32 0x20 0x1F 0x1F,
    .bseti32 0x1F 0x20 0x1F, .bseti32 0x1F 0x1F 0x20, .btsti16 8 0x1F, .btsti16 7 0x20, .btsti32 0x20 0x1F,
    .btsti32 0x1F 0x20, .bgeni32 0x20 0x1F, .bgeni32 0x1F 0x20, .bmaski32 0x20 0x1F, .bmaski32 0x1F 0x20,
    .ff0 0x20 0x1F, .ff0 0x1F 0x20, .ff1 0x20 0x1F, .ff1 0x1F 0x20, .xtrb0 0x20 0x1F, .xtrb0 0x1F 0x20,
    .xtrb1 0x20 0x1F, .xtrb1 0x1F 0x20, .xtrb2 0x20 0x1F, .xtrb2 0x1F 0x20, .xtrb3 0x20 0x1F, .xtrb3 0x1F 0x20,
    .zextb16 0x10 0xF, .zextb16 0xF 0x10, .zexth16 0x10 0xF, .zexth16 0xF 0x10, .sextb16 0x10 0xF,
    .sextb16 0xF 0x10, .sexth16 0x10 0xF, .sexth16 0xF 0x10, .mult16 0x10 0xF, .mult16 0xF 0x10,
    .mult32 0x20 0x1F 0x1F, .mult32 0x1F 0x20 0x1F, .mult32 0x1F 0x1F 0x20, .revb16 0x10 0xF, .revb16 0xF 0x10,
    .revh16 0x10 0xF, .revh16 0xF 0x10] : List Instr).all (fun i => !i.wf) = true := by decide

theorem test_wf_allows_bitops : ([
    .bclri16 7 0x1F, .bclri32 0x1F 0x1F 0x1F, .bseti16 7 0x1F, .bseti32 0x1F 0x1F 0x1F, .btsti16 7 0x1F,
    .btsti32 0x1F 0x1F, .bgeni32 0x1F 0x1F, .bmaski32 0x1F 0x1F, .ff0 0x1F 0x1F, .ff1 0x1F 0x1F,
    .xtrb0 0x1F 0x1F, .xtrb1 0x1F 0x1F, .xtrb2 0x1F 0x1F, .xtrb3 0x1F 0x1F, .zextb16 0xF 0xF, .zexth16 0xF 0xF,
    .sextb16 0xF 0xF, .sexth16 0xF 0xF, .mult16 0xF 0xF, .mult32 0x1F 0x1F 0x1F, .revb16 0xF 0xF,
    .revh16 0xF 0xF] : List Instr).all (fun i => i.wf) = true := by decide

theorem test_wf_refuses_branch : ([
    .br16 0x400, .br32 0x10000, .bt16 0x400, .bt32 0x10000, .bf16 0x400, .jmp16 0x10, .bf32 0x10000,
    .jmpix16 8 3, .jmpix16 7 4, .jsr16 0x10, .bsr32 0x4000000] : List Instr).all (fun i => !i.wf) = true := by decide

theorem test_wf_allows_branch : ([
    .br16 0x3FF, .br32 0xFFFF, .bt16 0x3FF, .bt32 0xFFFF, .bf16 0x3FF, .jmp16 0xF, .bf32 0xFFFF, .jmpix16 7 3,
    .jsr16 0xF, .bsr32 0x3FFFFFF] : List Instr).all (fun i => i.wf) = true := by decide

theorem test_wf_refuses_loadstore : ([
    .ld16b 8 7 0x1F, .ld16b 7 8 0x1F, .ld16b 7 7 0x20, .ld32b 0x20 0x1F 0xFFF, .ld32b 0x1F 0x20 0xFFF,
    .ld32b 0x1F 0x1F 0x1000, .ld32bs 0x20 0x1F 0xFFF, .ld32bs 0x1F 0x20 0xFFF, .ld32bs 0x1F 0x1F 0x1000,
    .ld16h 8 7 0x1F, .ld16h 7 8 0x1F, .ld16h 7 7 0x20, .ld32h 0x20 0x1F 0xFFF, .ld32h 0x1F 0x20 0xFFF,
    .ld32h 0x1F 0x1F 0x1000, .ld32hs 0x20 0x1F 0xFFF, .ld32hs 0x1F 0x20 0xFFF, .ld32hs 0x1F 0x1F 0x1000,
    .ld16w 8 7 0x1F, .ld16w 7 8 0x1F, .ld16w 7 7 0x20, .ld16wsp 8 0xFF, .ld16wsp 7 0x100,
    .ld32w 0x20 0x1F 0xFFF, .ld32w 0x1F 0x20 0xFFF, .ld32w 0x1F 0x1F 0x1000, .st16b 8 7 0x1F, .st16b 7 8 0x1F,
    .st16b 7 7 0x20, .st32b 0x20 0x1F 0xFFF, .st32b 0x1F 0x20 0xFFF, .st32b 0x1F 0x1F 0x1000, .st16h 8 7 0x1F,
    .st16h 7 8 0x1F, .st16h 7 7 0x20, .st32h 0x20 0x1F 0xFFF, .st32h 0x1F 0x20 0xFFF, .st32h 0x1F 0x1F 0x1000,
    .st16w 8 7 0x1F, .st16w 7 8 0x1F, .st16w 7 7 0x20, .st16wsp 8 0xFF, .st16wsp 7 0x100,
    .st32w 0x20 0x1F 0xFFF, .st32w 0x1F 0x20 0xFFF, .st32w 0x1F 0x1F 0x1000] : List Instr).all (fun i => !i.wf) = true := by decide

theorem test_wf_allows_loadstore : ([
    .ld16b 7 7 0x1F, .ld32b 0x1F 0x1F 0xFFF, .ld32bs 0x1F 0x1F 0xFFF, .ld16h 7 7 0x1F, .ld32h 0x1F 0x1F 0xFFF,
    .ld32hs 0x1F 0x1F 0xFFF, .ld16w 7 7 0x1F, .ld16wsp 7 0xFF, .ld32w 0x1F 0x1F 0xFFF, .st16b 7 7 0x1F,
    .st32b 0x1F 0x1F 0xFFF, .st16h 7 7 0x1F, .st32h 0x1F 0x1F 0xFFF, .st16w 7 7 0x1F, .st16wsp 7 0xFF,
    .st32w 0x1F 0x1F 0xFFF] : List Instr).all (fun i => i.wf) = true := by decide

theorem test_wf_refuses_multi : ([
    .ldm32 0x20 0x1F 0x1F, .ldm32 0x1F 0x20 0x1F, .ldm32 0x1F 0x1F 0x20, .ldq32 0x20, .stm32 0x20 0x1F 0x1F,
    .stm32 0x1F 0x20 0x1F, .stm32 0x1F 0x1F 0x20, .stq32 0x20, .push16 2 8, .push16 1 9, .pop16 2 8,
    .pop16 1 9, .bpush16h 8, .bpush16w 8, .bpop16h 8, .bpop16w 8] : List Instr).all (fun i => !i.wf) = true := by decide

theorem test_wf_allows_multi : ([
    .ldm32 0x1F 0x1F 0x1F, .ldq32 0x1F, .stm32 0x1F 0x1F 0x1F, .stq32 0x1F, .push16 1 8, .pop16 1 8,
    .bpush16h 7, .bpush16w 7, .bpop16h 7, .bpop16w 7] : List Instr).all (fun i => i.wf) = true := by decide

theorem test_wf_refuses_system : ([
    .mfcr32 0x20 0x1F 0x1F, .mfcr32 0x1F 0x20 0x1F, .mfcr32 0x1F 0x1F 0x20, .mtcr32 0x20 0x1F 0x1F,
    .mtcr32 0x1F 0x20 0x1F, .mtcr32 0x1F 0x1F 0x20, .trap32 4] : List Instr).all (fun i => !i.wf) = true := by decide

theorem test_wf_allows_system : ([
    .mfcr32 0x1F 0x1F 0x1F, .mtcr32 0x1F 0x1F 0x1F, .trap32 3] : List Instr).all (fun i => i.wf) = true := by decide

/-! ### Words written out from the `encoding` figures of the rules, field by field -/

theorem test_decode_addsub : ([
    (16, 0b0110000011010100, .addu16 3 5),
    (16, 0b0101110101111000, .addu16r 3 5 6),
    (32, 0b11000100110001010000000000100011, .addu32 3 5 6),
    (16, 0b0110000011010101, .addc16 3 5),
    (32, 0b11000100110001010000000001000011, .addc32 3 5 6),
    (16, 0b0010001111011010, .addi16 3 218),
    (16, 0b0101110101111010, .addi16r 3 5 6),
    (32, 0b11100100011001010000101011011010, .addi32 3 5 2778),
    (16, 0b0001101111011010, .addi16sp 3 218),
    (16, 0b0001011000011010, .addi16spsp 90),
    (16, 0b0110000011010110, .subu16 3 5),
    (16, 0b0101110101111001, .subu16r 3 5 6)] : List (Nat × Nat × Instr)).all
    (fun x => decodeTableWord x.1 x.2.1 == some x.2.2) = true := by decide

theorem test_decode_addsub_2 : ([
    (32, 0b11000100110001010000000010000011, .subu32 3 5 6),
    (16, 0b0110000011010111, .subc16 3 5),
    (32, 0b11000100110001010000000100000011, .subc32 3 5 6),
    (16, 0b0010101111011010, .subi16 3 218),
    (16, 0b0101110101111011, .subi16r 3 5 6),
    (32, 0b11100100011001010001101011011010, .subi32 3 5 2778),
    (16, 0b0001011000111010, .subi16spsp 90),
    (32, 0b11000100110001010000100000100011, .ixh32 3 5 6),
    (32, 0b11000100110001010000100001000011, .ixw32 3 5 6),
    (32, 0b11000100011001010000110000110101, .incf32 3 5 21),
    (32, 0b11000100011001010000110001010101, .inct32 3 5 21),
    (32, 0b11000100011001010000110010010101, .decf32 3 5 21)] : List (Nat × Nat × Instr)).all
    (fun x => decodeTableWord x.1 x.2.1 == some x.2.2) = true := by decide

theorem test_decode_addsub_3 : ([
    (32, 0b11000100011001010000110100010101, .dect32 3 5 21)] : List (Nat × Nat × Instr)).all
    (fun x => decodeTableWord x.1 x.2.1 == some x.2.2) = true := by decide

theorem test_decode_logic : ([
    (16, 0b0110100011010100, .and16 3 5),
    (32, 0b11000100110001010010000000100011, .and32 3 5 6),
    (32, 0b11100100011001010010101011011010, .andi32 3 5 2778),
    (16, 0b0110100011010101, .andn16 3 5),
    (32, 0b11000100110001010010000001000011, .andn32 3 5 6),
    (32, 0b11100100011001010011101011011010, .andni32 3 5 2778),
    (16, 0b0110110011010100, .or16 3 5),
    (32, 0b11000100110001010010010000100011, .or32 3 5 6),
    (32, 0b11101100011001011101101011011010, .ori32 3 5 56026),
    (16, 0b0110110011010101, .xor16 3 5),
    (32, 0b11000100110001010010010001000011, .xor32 3 5 6),
    (32, 0b11100100011001010100101011011010, .xori32 3 5 2778)] : List (Nat × Nat × Instr)).all
    (fun x => decodeTableWord x.1 x.2.1 == some x.2.2) = true := by decide

theorem test_decode_logic_2 : ([
    (16, 0b0110110011010110, .nor16 3 5),
    (32, 0b11000100110001010010010010000011, .nor32 3 5 6)] : List (Nat × Nat × Instr)).all
    (fun x => decodeTableWord x.1 x.2.1 == some x.2.2) = true := by decide

theorem test_decode_shift : ([
    (16, 0b0111000011010100, .lsl16 3 5),
    (32, 0b11000100110001010100000000100011, .lsl32 3 5 6),
    (16, 0b0100010101110101, .lsli16 3 5 21),
    (32, 0b11000110101001010100100000100011, .lsli32 3 5 21),
    (32, 0b11000110101001010100110000100011, .lslc32 3 5 21),
    (16, 0b0111000011010101, .lsr16 3 5),
    (32, 0b11000100110001010100000001000011, .lsr32 3 5 6),
    (16, 0b0100110101110101, .lsri16 3 5 21),
    (32, 0b11000110101001010100100001000011, .lsri32 3 5 21),
    (32, 0b11000110101001010100110001000011, .lsrc32 3 5 21),
    (16, 0b0111000011010110, .asr16 3 5),
    (32, 0b11000100110001010100000010000011, .asr32 3 5 6)] : List (Nat × Nat × Instr)).all
    (fun x => decodeTableWord x.1 x.2.1 == some x.2.2) = true := by decide

theorem test_decode_shift_2 : ([
    (16, 0b0101010101110101, .asri16 3 5 21),
    (32, 0b11000110101001010100100010000011, .asri32 3 5 21),
    (32, 0b11000110101001010100110010000011, .asrc32 3 5 21),
    (16, 0b0111000011010111, .rotl16 3 5),
    (32, 0b11000100110001010100000100000011, .rotl32 3 5 6),
    (32, 0b11000110101001010100100100000011, .rotli32 3 5 21),
    (32, 0b11000110101001010100110100000011, .xsr32 3 5 21)] : List (Nat × Nat × Instr)).all
    (fun x => decodeTableWord x.1 x.2.1 == some x.2.2) = true := by decide

theorem test_decode_compare : ([
    (16, 0b0110010110010100, .cmphs16 5 6),
    (16, 0b0011110100010101, .cmphsi16 5 21),
    (32, 0b11101011000001011101101011011010, .cmphsi32 5 56026),
    (16, 0b0110010110010101, .cmplt16 5 6),
    (16, 0b0011110100110101, .cmplti16 5 21),
    (32, 0b11101011001001011101101011011010, .cmplti32 5 56026),
    (16, 0b0110010110010110, .cmpne16 5 6),
    (16, 0b0011110101010101, .cmpnei16 5 21),
    (32, 0b11101011010001011101101011011010, .cmpnei32 5 56026),
    (16, 0b0110100110010110, .tst16 5 6),
    (16, 0b0110100000010111, .tstnbz16 5)] : List (Nat × Nat × Instr)).all
    (fun x => decodeTableWord x.1 x.2.1 == some x.2.2) = true := by decide

theorem test_decode_transfer : ([
    (16, 0b0110110011010111, .mov16 3 5),
    (16, 0b0011001111011010, .movi16 3 218),
    (32, 0b11101010000000111101101011011010, .movi32 3 56026),
    (32, 0b11101010001000111101101011011010, .movih32 3 56026),
    (32, 0b11000100000000000000010100000011, .mvc32 3),
    (16, 0b0110010011000011, .mvcv16 3),
    (16, 0b0000001001111010, .lrw16 3 0 90),
    (32, 0b11101010100000111101101011011010, .lrw32 3 56026),
    (32, 0b11001100011011101101101011011010, .grs32 3 187098)] : List (Nat × Nat × Instr)).all
    (fun x => decodeTableWord x.1 x.2.1 == some x.2.2) = true := by decide

theorem test_decode_bitops : ([
    (16, 0b0011101110010101, .bclri16 3 21),
    (32, 0b11000110101001010010100000100011, .bclri32 3 5 21),
    (16, 0b0011101110110101, .bseti16 3 21),
    (32, 0b11000110101001010010100001000011, .bseti32 3 5 21),
    (16, 0b0011110111010101, .btsti16 5 21),
    (32, 0b11000110101001010010100010000000, .btsti32 5 21),
    (32, 0b11000110101000000101000000100011, .bmaski32 3 21),
    (32, 0b11000100000001010111110000100011, .ff0 3 5),
    (32, 0b11000100000001010111110001000011, .ff1 3 5),
    (32, 0b11000100000001010111000000100011, .xtrb0 3 5),
    (32, 0b11000100000001010111000001000011, .xtrb1 3 5),
    (32, 0b11000100000001010111000010000011, .xtrb2 3 5)] : List (Nat × Nat × Instr)).all
    (fun x => decodeTableWord x.1 x.2.1 == some x.2.2) = true := by decide

theorem test_decode_bitops_2 : ([
    (32, 0b11000100000001010111000100000011, .xtrb3 3 5),
    (16, 0b0111010011010100, .zextb16 3 5),
    (16, 0b0111010011010101, .zexth16 3 5),
    (16, 0b0111010011010110, .sextb16 3 5),
    (16, 0b0111010011010111, .sexth16 3 5),
    (16, 0b0111110011010100, .mult16 3 5),
    (32, 0b11000100110001011000010000100011, .mult32 3 5 6),
    (16, 0b0111100011010110, .revb16 3 5),
    (16, 0b0111100011010111, .revh16 3 5)] : List (Nat × Nat × Instr)).all
    (fun x => decodeTableWord x.1 x.2.1 == some x.2.2) = true := by decide

theorem test_decode_branch : ([
    (16, 0b0000011011011010, .br16 730),
    (32, 0b11101000000000001101101011011010, .br32 56026),
    (16, 0b0000101011011010, .bt16 730),
    (32, 0b11101000011000001101101011011010, .bt32 56026),
    (16, 0b0000111011011010, .bf16 730),
    (16, 0b0111100000010100, .jmp16 5),
    (32, 0b11101000010000001101101011011010, .bf32 56026),
    (16, 0b0011110111100010, .jmpix16 5 2),
    (16, 0b0111100000010101, .jsr16 5),
    (32, 0b11100000010110101101101011011010, .bsr32 5954266)] : List (Nat × Nat × Instr)).all
    (fun x => decodeTableWord x.1 x.2.1 == some x.2.2) = true := by decide

theorem test_decode_loadstore : ([
    (16, 0b1000010101110101, .ld16b 3 5 21),
    (32, 0b11011000011001010000101011011010, .ld32b 3 5 2778),
    (32, 0b11011000011001010100101011011010, .ld32bs 3 5 2778),
    (16, 0b1000110101110101, .ld16h 3 5 21),
    (32, 0b11011000011001010001101011011010, .ld32h 3 5 2778),
    (32, 0b11011000011001010101101011011010, .ld32hs 3 5 2778),
    (16, 0b1001010101110101, .ld16w 3 5 21),
    (16, 0b1001111001111010, .ld16wsp 3 218),
    (32, 0b11011000011001010010101011011010, .ld32w 3 5 2778),
    (16, 0b1010010101110101, .st16b 3 5 21),
    (32, 0b11011100011001010000101011011010, .st32b 3 5 2778),
    (16, 0b1010110101110101, .st16h 3 5 21)] : List (Nat × Nat × Instr)).all
    (fun x => decodeTableWord x.1 x.2.1 == some x.2.2) = true := by decide

theorem test_decode_loadstore_2 : ([
    (32, 0b11011100011001010001101011011010, .st32h 3 5 2778),
    (16, 0b1011010101110101, .st16w 3 5 21),
    (16, 0b1011111001111010, .st16wsp 3 218),
    (32, 0b11011100011001010010101011011010, .st32w 3 5 2778)] : List (Nat × Nat × Instr)).all
    (fun x => decodeTableWord x.1 x.2.1 == some x.2.2) = true := by decide

theorem test_decode_multi : ([
    (32, 0b11010000110001010001110000110101, .ldm32 6 5 21),
    (32, 0b11010100110001010001110000110101, .stm32 6 5 21),
    (16, 0b0001010011010101, .push16 1 5),
    (16, 0b0001010010010101, .pop16 1 5),
    (16, 0b0001010001100010, .ipush16),
    (16, 0b0001010001100011, .ipop16),
    (16, 0b0001010001100000, .nie16),
    (16, 0b0001010001100001, .nir16),
    (16, 0b0001010011111000, .bpush16h 6),
    (16, 0b0001010011111010, .bpush16w 6),
    (16, 0b0001010010111000, .bpop16h 6),
    (16, 0b0001010010111010, .bpop16w 6)] : List (Nat × Nat × Instr)).all
    (fun x => decodeTableWord x.1 x.2.1 == some x.2.2) = true := by decide

theorem test_decode_system : ([
    (32, 0b11000010101101010110000000100011, .mfcr32 3 21 21),
    (32, 0b11000010101001010110010000110101, .mtcr32 5 21 21),
    (32, 0b11000000000000000100000000100000, .rte32),
    (32, 0b11000000000000000100100000100000, .stop32),
    (32, 0b11000000000000000101000000100000, .doze32),
    (32, 0b11000000000000000000010000100000, .sync32),
    (32, 0b11000000000000000100110000100000, .wait32),
    (32, 0b11000000000000000010100000100000, .trap32 2),
    (32, 0b11000000000000000001000000100000, .bmset32),
    (32, 0b11000000000000000001010000100000, .bmclr32),
    (16, 0b0000000000000000, .bkpt16)] : List (Nat × Nat × Instr)).all
    (fun x => decodeTableWord x.1 x.2.1 == some x.2.2) = true := by decide

theorem test_decode_pseudo : ([
    (32, 0b11000100101001100000000010000011, .rsub32 3 5 6, .subu32 3 6 5),
    (16, 0b0110110011001110, .not16 3, .nor16 3 3),
    (32, 0b11000100101001010010010010000011, .not32 3 5, .nor32 3 5 5),
    (32, 0b11000100000001010100100000100011, .mov32 3 5, .lsli32 3 5 0),
    (32, 0b11000100011001010000110000100000, .movf32 3 5, .incf32 3 5 0),
    (32, 0b11000100011001010000110001000000, .movt32 3 5, .inct32 3 5 0),
    (32, 0b11101010000000110000001000000000, .bgeni32 3 9, .movi32 3 512),
    (32, 0b11101010001000110000000000010000, .bgeni32 3 20, .movih32 3 16),
    (16, 0b0111100000111100, .rts16, .jmp16 15),
    (32, 0b11010000100001010001110000100011, .ldq32 5, .ldm32 4 5 3),
    (32, 0b11010100100001010001110000100011, .stq32 5, .stm32 4 5 3)] : List (Nat × Nat × Instr × Instr)).all
    (fun x => decodeTableWord x.1 x.2.1 == some x.2.2.2 && x.2.2.1.core == x.2.2.2 && encodeWord x.2.2.1 == x.2.1) = true := by
  decide

/-- Words that match no row, among them those of vectors V30.1 to V30.17, are refused (30_encoding.md rule R143). -/
theorem test_decode_refuses : ([(16, 0x7C01), (16, 0x1440), (16, 0x3860), (16, 0x1464), (16, 0x14E1), (16, 0x6407),
    (16, 0x7844), (32, 0xC8000000), (32, 0xF0000000), (32, 0xC4000060), (32, 0xC4008020), (32, 0xC4009420),
    (32, 0xE9000000), (32, 0xE8010004), (32, 0xC0004021), (32, 0xD8003000), (32, 0xCC000000), (16, 0x14C9),
    (16, 0x1489)] : List (Nat × Nat)).all (fun x => decodeTableWord x.1 x.2 == none) = true := by decide

/-! ### One step of each instruction, with the start and the result of the vector named -/

/-- The vectors' configuration: no option but the vector base (95_test_vectors.md section 1). -/
def plain : Config :=
  { Config.default with
    mpuRegions := 0
    cache := .absent
    cacheRegions := 0
    security := false
    tcip := false
    gprReset := false
    bct := false
    intSp := false
    nest := false
    unalignedHw := false
    stackGuard := false
    gcrWidth := 0
    gsrWidth := 0
    smcCoherent := true }

/-- The vectors' start state, at 0x1000, with registers, then words of memory. -/
def start (c : Config) (psr : Word) (regs : List (Nat × Word)) (words : List (Word × Word)) : State :=
  let s : State := { State.reset with cfg := c, psr := psr, pc := 0x1000 }
  let t := s.setRegs regs
  { t with mem := words.foldl (fun m x => m.store c.bigEndian x.1 x.2 .word) t.mem }

/-- The result is a next state with the property. -/
def nextIs (r : Result) (p : State → Bool) : Bool :=
  match r with
  | .next t => p t
  | _ => false

/-- V40.1. -/
theorem test_addu16 : nextIs (step (State.withFetchWord
    (start plain 0x80000001 [(1, 0xFFFFFFFF), (2, 2)] [])
    16 0x6048))
    (fun t => t.reg 1 == 1 && t.pc == 0x1002) = true := by decide

/-- V40.3. -/
theorem test_addu16r : nextIs (step (State.withFetchWord
    (start plain 0x80000000 [(1, 0x7FFFFFFF), (2, 1)] [])
    16 0x5968))
    (fun t => t.reg 3 == 0x80000000 && t.pc == 0x1002) = true := by decide

/-- V40.4. -/
theorem test_addu32 : nextIs (step (State.withFetchWord
    (start plain 0x80000000 [(13, 0x12345678), (12, 0x11111111)] [])
    32 0xC58D002F))
    (fun t => t.reg 15 == 0x23456789 && t.pc == 0x1004) = true := by decide

/-- V40.6. -/
theorem test_addc16 : nextIs (step (State.withFetchWord
    (start plain 0x80000001 [(1, 0xFFFFFFFF), (2, 0)] [])
    16 0x6049))
    (fun t => t.reg 1 == 0 && t.psrC && t.pc == 0x1002) = true := by decide

/-- V40.9. -/
theorem test_addc32 : nextIs (step (State.withFetchWord
    (start plain 0x80000001 [(1, 0xFFFFFFFF), (2, 0xFFFFFFFF)] [])
    32 0xC4410043))
    (fun t => t.reg 3 == 0xFFFFFFFF && t.psrC && t.pc == 0x1004) = true := by decide

/-- V40.11. -/
theorem test_addi16 : nextIs (step (State.withFetchWord
    (start plain 0x80000000 [(1, 0xFFFFFFFF)] [])
    16 0x2100))
    (fun t => t.reg 1 == 0 && t.pc == 0x1002) = true := by decide

/-- V40.13. -/
theorem test_addi16r : nextIs (step (State.withFetchWord
    (start plain 0x80000000 [(1, 0xFFFFFFF8)] [])
    16 0x595E))
    (fun t => t.reg 2 == 0 && t.pc == 0x1002) = true := by decide

/-- V40.15. -/
theorem test_addi32 : nextIs (step (State.withFetchWord
    (start plain 0x80000000 [(1, 0xFFFFF000)] [])
    32 0xE4610FFF))
    (fun t => t.reg 3 == 0 && t.pc == 0x1004) = true := by decide

/-- V40.17. -/
theorem test_addi16sp : nextIs (step (State.withFetchWord
    (start plain 0x80000000 [(14, 0x20000000)] [])
    16 0x19FF))
    (fun t => t.reg 1 == 0x200003FC && t.pc == 0x1002) = true := by decide

/-- V40.19. -/
theorem test_addi16spsp : nextIs (step (State.withFetchWord
    (start plain 0x80000000 [(14, 0x20000000)] [])
    16 0x171F))
    (fun t => t.spvSp == 0x200001FC && t.pc == 0x1002) = true := by decide

/-- V40.21. -/
theorem test_subi16spsp : nextIs (step (State.withFetchWord
    (start plain 0x80000000 [(14, 0)] [])
    16 0x1421))
    (fun t => t.spvSp == 0xFFFFFFFC && t.pc == 0x1002) = true := by decide

/-- V40.24. -/
theorem test_subu16 : nextIs (step (State.withFetchWord
    (start plain 0x80000000 [(1, 0), (2, 1)] [])
    16 0x604A))
    (fun t => t.reg 1 == 0xFFFFFFFF && t.pc == 0x1002) = true := by decide

/-- V40.25. -/
theorem test_subu16r : nextIs (step (State.withFetchWord
    (start plain 0x80000000 [(1, 0xA), (2, 3)] [])
    16 0x5969))
    (fun t => t.reg 3 == 7 && t.pc == 0x1002) = true := by decide

/-- V40.26. -/
theorem test_subu32 : nextIs (step (State.withFetchWord
    (start plain 0x80000000 [(1, 3), (2, 0xA)] [])
    32 0xC4410083))
    (fun t => t.reg 3 == 0xFFFFFFF9 && t.pc == 0x1004) = true := by decide

/-- V40.27. -/
theorem test_subc16 : nextIs (step (State.withFetchWord
    (start plain 0x80000001 [(1, 5), (2, 3)] [])
    16 0x604B))
    (fun t => t.reg 1 == 2 && t.psrC && t.pc == 0x1002) = true := by decide

/-- V40.31. -/
theorem test_subc32 : nextIs (step (State.withFetchWord
    (start plain 0x80000001 [(1, 0x80000000), (2, 1)] [])
    32 0xC4410103))
    (fun t => t.reg 3 == 0x7FFFFFFF && t.psrC && t.pc == 0x1004) = true := by decide

/-- V40.33. -/
theorem test_subi16 : nextIs (step (State.withFetchWord
    (start plain 0x80000000 [(1, 0x100)] [])
    16 0x29FF))
    (fun t => t.reg 1 == 0 && t.pc == 0x1002) = true := by decide

/-- V40.35. -/
theorem test_subi16r : nextIs (step (State.withFetchWord
    (start plain 0x80000000 [(1, 8)] [])
    16 0x595F))
    (fun t => t.reg 2 == 0 && t.pc == 0x1002) = true := by decide

/-- V40.36. -/
theorem test_subi32 : nextIs (step (State.withFetchWord
    (start plain 0x80000000 [(1, 0x1000)] [])
    32 0xE4611FFF))
    (fun t => t.reg 3 == 0 && t.pc == 0x1004) = true := by decide

/-- V40.38. -/
theorem test_ixh32 : nextIs (step (State.withFetchWord
    (start plain 0x80000000 [(1, 0x1000), (2, 0x80000003)] [])
    32 0xC4410823))
    (fun t => t.reg 3 == 0x1006 && t.pc == 0x1004) = true := by decide

/-- V40.39. -/
theorem test_ixw32 : nextIs (step (State.withFetchWord
    (start plain 0x80000000 [(1, 0x1000), (2, 0xC0000003)] [])
    32 0xC4410843))
    (fun t => t.reg 3 == 0x100C && t.pc == 0x1004) = true := by decide

/-- V40.40. -/
theorem test_incf32 : nextIs (step (State.withFetchWord
    (start plain 0x80000000 [(1, 1), (3, 0xAA)] [])
    32 0xC4610C3F))
    (fun t => t.reg 3 == 0x20 && t.pc == 0x1004) = true := by decide

/-- V40.42. -/
theorem test_inct32 : nextIs (step (State.withFetchWord
    (start plain 0x80000001 [(1, 0xFFFFFFFF), (3, 0xAA)] [])
    32 0xC4610C41))
    (fun t => t.reg 3 == 0 && t.pc == 0x1004) = true := by decide

/-- V40.45. -/
theorem test_decf32 : nextIs (step (State.withFetchWord
    (start plain 0x80000000 [(1, 0), (3, 0xAA)] [])
    32 0xC4610C9F))
    (fun t => t.reg 3 == 0xFFFFFFE1 && t.pc == 0x1004) = true := by decide

/-- V40.47. -/
theorem test_dect32 : nextIs (step (State.withFetchWord
    (start plain 0x80000001 [(1, 0xA), (3, 0xAA)] [])
    32 0xC4610D02))
    (fun t => t.reg 3 == 8 && t.pc == 0x1004) = true := by decide

/-- V41.1. -/
theorem test_and16 : nextIs (step (State.withFetchWord
    (start plain 0x80000000 [(1, 0xF0F0A5A5), (2, 0xFF00FF0F)] [])
    16 0x6848))
    (fun t => t.reg 1 == 0xF000A505 && t.pc == 0x1002) = true := by decide

/-- V41.2. -/
theorem test_and32 : nextIs (step (State.withFetchWord
    (start plain 0x80000000 [(1, 0xF0F0A5A5), (2, 0xFF00FF0F)] [])
    32 0xC4412023))
    (fun t => t.reg 3 == 0xF000A505 && t.pc == 0x1004) = true := by decide

/-- V41.3. -/
theorem test_andi32 : nextIs (step (State.withFetchWord
    (start plain 0x80000000 [(1, 0xF0F0A5A5)] [])
    32 0xE4612FFF))
    (fun t => t.reg 3 == 0x5A5 && t.pc == 0x1004) = true := by decide

/-- V41.5. -/
theorem test_andn16 : nextIs (step (State.withFetchWord
    (start plain 0x80000000 [(1, 0xF0F0A5A5), (2, 0xFF00FF0F)] [])
    16 0x6849))
    (fun t => t.reg 1 == 0xF000A0 && t.pc == 0x1002) = true := by decide

/-- V41.6. -/
theorem test_andn32 : nextIs (step (State.withFetchWord
    (start plain 0x80000000 [(1, 0xF0F0A5A5), (2, 0xFF00FF0F)] [])
    32 0xC4412043))
    (fun t => t.reg 3 == 0xF000A0 && t.pc == 0x1004) = true := by decide

/-- V41.7. -/
theorem test_andni32 : nextIs (step (State.withFetchWord
    (start plain 0x80000000 [(1, 0xF0F0A5A5)] [])
    32 0xE4613FFF))
    (fun t => t.reg 3 == 0xF0F0A000 && t.pc == 0x1004) = true := by decide

/-- V41.8. -/
theorem test_or16 : nextIs (step (State.withFetchWord
    (start plain 0x80000000 [(1, 0xF0F0A5A5), (2, 0xFF00FF0F)] [])
    16 0x6C48))
    (fun t => t.reg 1 == 0xFFF0FFAF && t.pc == 0x1002) = true := by decide

/-- V41.9. -/
theorem test_or32 : nextIs (step (State.withFetchWord
    (start plain 0x80000000 [(1, 0xF0F0A5A5), (2, 0xFF00FF0F)] [])
    32 0xC4412423))
    (fun t => t.reg 3 == 0xFFF0FFAF && t.pc == 0x1004) = true := by decide

/-- V41.10. -/
theorem test_ori32 : nextIs (step (State.withFetchWord
    (start plain 0x80000000 [(1, 0xA5A50000)] [])
    32 0xEC61FFFF))
    (fun t => t.reg 3 == 0xA5A5FFFF && t.pc == 0x1004) = true := by decide

/-- V41.12. -/
theorem test_xor16 : nextIs (step (State.withFetchWord
    (start plain 0x80000000 [(1, 0xF0F0A5A5), (2, 0xFF00FF0F)] [])
    16 0x6C49))
    (fun t => t.reg 1 == 0xFF05AAA && t.pc == 0x1002) = true := by decide

/-- V41.14. -/
theorem test_xor32 : nextIs (step (State.withFetchWord
    (start plain 0x80000000 [(1, 0xF0F0A5A5), (2, 0xFF00FF0F)] [])
    32 0xC4412443))
    (fun t => t.reg 3 == 0xFF05AAA && t.pc == 0x1004) = true := by decide

/-- V41.15. -/
theorem test_xori32 : nextIs (step (State.withFetchWord
    (start plain 0x80000000 [(1, 0xF0F0A5A5)] [])
    32 0xE4614FFF))
    (fun t => t.reg 3 == 0xF0F0AA5A && t.pc == 0x1004) = true := by decide

/-- V41.16. -/
theorem test_nor16 : nextIs (step (State.withFetchWord
    (start plain 0x80000000 [(1, 0xF0F0A5A5), (2, 0xFF00FF0F)] [])
    16 0x6C4A))
    (fun t => t.reg 1 == 0xF0050 && t.pc == 0x1002) = true := by decide

/-- V41.18. -/
theorem test_nor32 : nextIs (step (State.withFetchWord
    (start plain 0x80000000 [(1, 0xF0F0A5A5), (2, 0xFF00FF0F)] [])
    32 0xC4412483))
    (fun t => t.reg 3 == 0xF0050 && t.pc == 0x1004) = true := by decide

/-- V42.1. -/
theorem test_lsl16 : nextIs (step (State.withFetchWord
    (start plain 0x80000000 [(1, 0x80000001), (2, 0)] [])
    16 0x7048))
    (fun t => t.reg 1 == 0x80000001 && t.pc == 0x1002) = true := by decide

/-- V42.8. -/
theorem test_lsl32 : nextIs (step (State.withFetchWord
    (start plain 0x80000000 [(1, 0xF0F0F0F), (2, 4), (3, 0x77)] [])
    32 0xC4414023))
    (fun t => t.reg 3 == 0xF0F0F0F0 && t.pc == 0x1004) = true := by decide

/-- V42.10. -/
theorem test_lsr16 : nextIs (step (State.withFetchWord
    (start plain 0x80000000 [(1, 0x80000001), (2, 0)] [])
    16 0x7049))
    (fun t => t.reg 1 == 0x80000001 && t.pc == 0x1002) = true := by decide

/-- V42.15. -/
theorem test_lsr32 : nextIs (step (State.withFetchWord
    (start plain 0x80000000 [(1, 0xF0F0F0F0), (2, 4), (3, 0x77)] [])
    32 0xC4414043))
    (fun t => t.reg 3 == 0xF0F0F0F && t.pc == 0x1004) = true := by decide

/-- V42.17. -/
theorem test_asr16 : nextIs (step (State.withFetchWord
    (start plain 0x80000000 [(1, 0x80000001), (2, 0)] [])
    16 0x704A))
    (fun t => t.reg 1 == 0x80000001 && t.pc == 0x1002) = true := by decide

/-- V42.23. -/
theorem test_asr32 : nextIs (step (State.withFetchWord
    (start plain 0x80000000 [(1, 0xF0F0F0F0), (2, 4), (3, 0x77)] [])
    32 0xC4414083))
    (fun t => t.reg 3 == 0xFF0F0F0F && t.pc == 0x1004) = true := by decide

/-- V42.25. -/
theorem test_rotl16 : nextIs (step (State.withFetchWord
    (start plain 0x80000000 [(1, 0x80000001), (2, 0)] [])
    16 0x704B))
    (fun t => t.reg 1 == 0x80000001 && t.pc == 0x1002) = true := by decide

/-- V42.30. -/
theorem test_rotl32 : nextIs (step (State.withFetchWord
    (start plain 0x80000000 [(1, 0x12345678), (2, 8), (3, 0x77)] [])
    32 0xC4414103))
    (fun t => t.reg 3 == 0x34567812 && t.pc == 0x1004) = true := by decide

/-- V42.32. -/
theorem test_lsli16 : nextIs (step (State.withFetchWord
    (start plain 0x80000000 [(1, 0x12345678), (2, 0x77)] [])
    16 0x4140))
    (fun t => t.reg 2 == 0x12345678 && t.pc == 0x1002) = true := by decide

/-- V42.34. -/
theorem test_lsli32 : nextIs (step (State.withFetchWord
    (start plain 0x80000000 [(1, 0x12345678)] [])
    32 0xC4014823))
    (fun t => t.reg 3 == 0x12345678 && t.pc == 0x1004) = true := by decide

/-- V42.36. -/
theorem test_lsri16 : nextIs (step (State.withFetchWord
    (start plain 0x80000000 [(1, 0x12345678)] [])
    16 0x4940))
    (fun t => t.reg 2 == 0x12345678 && t.pc == 0x1002) = true := by decide

/-- V42.38. -/
theorem test_lsri32 : nextIs (step (State.withFetchWord
    (start plain 0x80000000 [(1, 0x12345678)] [])
    32 0xC6014843))
    (fun t => t.reg 3 == 0x1234 && t.pc == 0x1004) = true := by decide

/-- V42.39. -/
theorem test_asri16 : nextIs (step (State.withFetchWord
    (start plain 0x80000000 [(1, 0x80000000)] [])
    16 0x515F))
    (fun t => t.reg 2 == 0xFFFFFFFF && t.pc == 0x1002) = true := by decide

/-- V42.41. -/
theorem test_asri32 : nextIs (step (State.withFetchWord
    (start plain 0x80000000 [(1, 0x87654321)] [])
    32 0xC4814883))
    (fun t => t.reg 3 == 0xF8765432 && t.pc == 0x1004) = true := by decide

/-- V42.42. -/
theorem test_rotli32 : nextIs (step (State.withFetchWord
    (start plain 0x80000000 [(1, 0x12345678)] [])
    32 0xC4014903))
    (fun t => t.reg 3 == 0x12345678 && t.pc == 0x1004) = true := by decide

/-- V42.45. -/
theorem test_lslc32 : nextIs (step (State.withFetchWord
    (start plain 0x80000000 [(1, 0x80000001), (3, 0x77)] [])
    32 0xC4014C23))
    (fun t => t.reg 3 == 2 && t.psrC && t.pc == 0x1004) = true := by decide

/-- V42.49. -/
theorem test_lsrc32 : nextIs (step (State.withFetchWord
    (start plain 0x80000000 [(1, 0x80000008), (3, 0x77)] [])
    32 0xC4014C43))
    (fun t => t.reg 3 == 0x40000004 && !t.psrC && t.pc == 0x1004) = true := by decide

/-- V42.53. -/
theorem test_asrc32 : nextIs (step (State.withFetchWord
    (start plain 0x80000000 [(1, 0x80000009), (3, 0x77)] [])
    32 0xC4014C83))
    (fun t => t.reg 3 == 0xC0000004 && t.psrC && t.pc == 0x1004) = true := by decide

/-- V42.57. -/
theorem test_xsr32 : nextIs (step (State.withFetchWord
    (start plain 0x80000000 [(1, 0x80000001), (3, 0x77)] [])
    32 0xC4014D03))
    (fun t => t.reg 3 == 0x40000000 && t.psrC && t.pc == 0x1004) = true := by decide

/-- V43.1. -/
theorem test_cmphs16 : nextIs (step (State.withFetchWord
    (start plain 0x80000000 [(1, 5), (2, 5)] [])
    16 0x6484))
    (fun t => t.psrC && t.pc == 0x1002) = true := by decide

/-- V43.4. -/
theorem test_cmplt16 : nextIs (step (State.withFetchWord
    (start plain 0x80000000 [(1, 0x80000000), (2, 1)] [])
    16 0x6485))
    (fun t => t.psrC && t.pc == 0x1002) = true := by decide

/-- V43.7. -/
theorem test_cmpne16 : nextIs (step (State.withFetchWord
    (start plain 0x80000001 [(1, 5), (2, 5)] [])
    16 0x6486))
    (fun t => !t.psrC && t.pc == 0x1002) = true := by decide

/-- V43.9. -/
theorem test_cmphsi16 : nextIs (step (State.withFetchWord
    (start plain 0x80000000 [(1, 0x20)] [])
    16 0x391F))
    (fun t => t.psrC && t.pc == 0x1002) = true := by decide

/-- V43.12. -/
theorem test_cmphsi32 : nextIs (step (State.withFetchWord
    (start plain 0x80000000 [(1, 0x10000)] [])
    32 0xEB01FFFF))
    (fun t => t.psrC && t.pc == 0x1004) = true := by decide

/-- V43.14. -/
theorem test_cmplti16 : nextIs (step (State.withFetchWord
    (start plain 0x80000000 [(1, 0)] [])
    16 0x3920))
    (fun t => t.psrC && t.pc == 0x1002) = true := by decide

/-- V43.17. -/
theorem test_cmplti32 : nextIs (step (State.withFetchWord
    (start plain 0x80000000 [(1, 0xFFFF)] [])
    32 0xEB21FFFF))
    (fun t => t.psrC && t.pc == 0x1004) = true := by decide

/-- V43.20. -/
theorem test_cmpnei16 : nextIs (step (State.withFetchWord
    (start plain 0x80000001 [(1, 0x1F)] [])
    16 0x395F))
    (fun t => !t.psrC && t.pc == 0x1002) = true := by decide

/-- V43.22. -/
theorem test_cmpnei32 : nextIs (step (State.withFetchWord
    (start plain 0x80000000 [(1, 0xFFFFFFFF)] [])
    32 0xEB41FFFF))
    (fun t => t.psrC && t.pc == 0x1004) = true := by decide

/-- V43.24. -/
theorem test_tst16 : nextIs (step (State.withFetchWord
    (start plain 0x80000001 [(1, 0xF0), (2, 0xF)] [])
    16 0x6886))
    (fun t => !t.psrC && t.pc == 0x1002) = true := by decide

/-- V43.26. -/
theorem test_tstnbz16 : nextIs (step (State.withFetchWord
    (start plain 0x80000000 [(1, 0x1010101)] [])
    16 0x6807))
    (fun t => t.psrC && t.pc == 0x1002) = true := by decide

/-- V44.1. -/
theorem test_mov16 : nextIs (step (State.withFetchWord
    (start plain 0x80000000 [(14, 0x20001000)] [])
    16 0x6C7B))
    (fun t => t.reg 1 == 0x20001000 && t.pc == 0x1002) = true := by decide

/-- V44.5. -/
theorem test_movi16 : nextIs (step (State.withFetchWord
    (start plain 0x80000000 [] [])
    16 0x37FF))
    (fun t => t.reg 7 == 0xFF && t.pc == 0x1002) = true := by decide

/-- V44.7. -/
theorem test_movi32 : nextIs (step (State.withFetchWord
    (start plain 0x80000000 [] [])
    32 0xEA0AFFFF))
    (fun t => t.reg 10 == 0xFFFF && t.pc == 0x1004) = true := by decide

/-- V44.9. -/
theorem test_movih32 : nextIs (step (State.withFetchWord
    (start plain 0x80000000 [(10, 0xFFFF)] [])
    32 0xEA2A2800))
    (fun t => t.reg 10 == 0x28000000 && t.pc == 0x1004) = true := by decide

/-- V44.11. -/
theorem test_mvc32 : nextIs (step (State.withFetchWord
    (start plain 0x80000001 [] [])
    32 0xC4000503))
    (fun t => t.reg 3 == 1 && t.pc == 0x1004) = true := by decide

/-- V44.13. -/
theorem test_mvcv16 : nextIs (step (State.withFetchWord
    (start plain 0x80000000 [] [])
    16 0x64C3))
    (fun t => t.reg 3 == 1 && t.pc == 0x1002) = true := by decide

/-- V44.15. -/
theorem test_lrw16 : nextIs (step (State.withFetchWord
    (start plain 0x80000000 [] [])
    16 0x1020))
    (fun t => t.reg 1 == 0x1020 && t.pc == 0x1002) = true := by decide

/-- V44.20. -/
theorem test_lrw32 : nextIs (step (State.withFetchWord
    (start plain 0x80000000 [] [(0x1008, 0x1000000)])
    32 0xEA8E0002))
    (fun t => t.spvSp == 0x1000000 && t.pc == 0x1004) = true := by decide

/-- V44.23. -/
theorem test_grs32 : nextIs (step (State.withFetchWord
    (start plain 0x80000000 [] [])
    32 0xCC6C0008))
    (fun t => t.reg 3 == 0x1010 && t.pc == 0x1004) = true := by decide

/-- V45.1. -/
theorem test_bclri16 : nextIs (step (State.withFetchWord
    (start plain 0x80000000 [(1, 0xFFFFFFFF)] [])
    16 0x399F))
    (fun t => t.reg 1 == 0x7FFFFFFF && t.pc == 0x1002) = true := by decide

/-- V45.3. -/
theorem test_bclri32 : nextIs (step (State.withFetchWord
    (start plain 0x80000000 [(1, 0xFFFFFFFF)] [])
    32 0xC5E12823))
    (fun t => t.reg 3 == 0xFFFF7FFF && t.pc == 0x1004) = true := by decide

/-- V45.5. -/
theorem test_bseti16 : nextIs (step (State.withFetchWord
    (start plain 0x80000000 [(1, 0)] [])
    16 0x39BF))
    (fun t => t.reg 1 == 0x80000000 && t.pc == 0x1002) = true := by decide

/-- V45.6. -/
theorem test_bseti32 : nextIs (step (State.withFetchWord
    (start plain 0x80000000 [(1, 0x40)] [])
    32 0xC5012843))
    (fun t => t.reg 3 == 0x140 && t.pc == 0x1004) = true := by decide

/-- V45.8. -/
theorem test_btsti16 : nextIs (step (State.withFetchWord
    (start plain 0x80000000 [(1, 1)] [])
    16 0x39C0))
    (fun t => t.psrC && t.pc == 0x1002) = true := by decide

/-- V45.10. -/
theorem test_btsti32 : nextIs (step (State.withFetchWord
    (start plain 0x80000000 [(12, 0x80000000)] [])
    32 0xC7EC2880))
    (fun t => t.psrC && t.pc == 0x1004) = true := by decide

/-- V45.11. -/
theorem test_bmaski32 : nextIs (step (State.withFetchWord
    (start plain 0x80000000 [] [])
    32 0xC6005023))
    (fun t => t.reg 3 == 0x1FFFF && t.pc == 0x1004) = true := by decide

/-- V45.16. -/
theorem test_ff0 : nextIs (step (State.withFetchWord
    (start plain 0x80000000 [(1, 0), (3, 0x77)] [])
    32 0xC4017C23))
    (fun t => t.reg 3 == 0 && t.pc == 0x1004) = true := by decide

/-- V45.21. -/
theorem test_ff1 : nextIs (step (State.withFetchWord
    (start plain 0x80000000 [(1, 0), (3, 0x77)] [])
    32 0xC4017C43))
    (fun t => t.reg 3 == 0x20 && t.pc == 0x1004) = true := by decide

/-- V45.26. -/
theorem test_xtrb0 : nextIs (step (State.withFetchWord
    (start plain 0x80000000 [(1, 0x11223344), (3, 0x77)] [])
    32 0xC4017023))
    (fun t => t.reg 3 == 0x11 && t.psrC && t.pc == 0x1004) = true := by decide

/-- V45.27. -/
theorem test_xtrb1 : nextIs (step (State.withFetchWord
    (start plain 0x80000000 [(1, 0x11223344), (3, 0x77)] [])
    32 0xC4017043))
    (fun t => t.reg 3 == 0x22 && t.psrC && t.pc == 0x1004) = true := by decide

/-- V45.28. -/
theorem test_xtrb2 : nextIs (step (State.withFetchWord
    (start plain 0x80000000 [(1, 0x11223344), (3, 0x77)] [])
    32 0xC4017083))
    (fun t => t.reg 3 == 0x33 && t.psrC && t.pc == 0x1004) = true := by decide

/-- V45.29. -/
theorem test_xtrb3 : nextIs (step (State.withFetchWord
    (start plain 0x80000000 [(1, 0x11223344), (3, 0x77)] [])
    32 0xC4017103))
    (fun t => t.reg 3 == 0x44 && t.psrC && t.pc == 0x1004) = true := by decide

/-- V45.31. -/
theorem test_zextb16 : nextIs (step (State.withFetchWord
    (start plain 0x80000000 [(1, 0x123456F8)] [])
    16 0x7484))
    (fun t => t.reg 2 == 0xF8 && t.pc == 0x1002) = true := by decide

/-- V45.32. -/
theorem test_zexth16 : nextIs (step (State.withFetchWord
    (start plain 0x80000000 [(1, 0x1234F678)] [])
    16 0x7485))
    (fun t => t.reg 2 == 0xF678 && t.pc == 0x1002) = true := by decide

/-- V45.33. -/
theorem test_sextb16 : nextIs (step (State.withFetchWord
    (start plain 0x80000000 [(1, 0x123456F8)] [])
    16 0x7486))
    (fun t => t.reg 2 == 0xFFFFFFF8 && t.pc == 0x1002) = true := by decide

/-- V45.35. -/
theorem test_sexth16 : nextIs (step (State.withFetchWord
    (start plain 0x80000000 [(1, 0x1234F678)] [])
    16 0x7487))
    (fun t => t.reg 2 == 0xFFFFF678 && t.pc == 0x1002) = true := by decide

/-- V45.37. -/
theorem test_mult16 : nextIs (step (State.withFetchWord
    (start plain 0x80000000 [(1, 0x10000), (2, 0x10000)] [])
    16 0x7C48))
    (fun t => t.reg 1 == 0 && t.pc == 0x1002) = true := by decide

/-- V45.39. -/
theorem test_mult32 : nextIs (step (State.withFetchWord
    (start plain 0x80000000 [(1, 0x12345678), (2, 0x9ABCDEF0)] [])
    32 0xC4418423))
    (fun t => t.reg 3 == 0x242D2080 && t.pc == 0x1004) = true := by decide

/-- V45.41. -/
theorem test_revb16 : nextIs (step (State.withFetchWord
    (start plain 0x80000000 [(1, 0x11223344)] [])
    16 0x7886))
    (fun t => t.reg 2 == 0x44332211 && t.pc == 0x1002) = true := by decide

/-- V45.42. -/
theorem test_revh16 : nextIs (step (State.withFetchWord
    (start plain 0x80000000 [(1, 0x11223344)] [])
    16 0x7887))
    (fun t => t.reg 2 == 0x22114433 && t.pc == 0x1002) = true := by decide

/-- V46.1. -/
theorem test_br16 : nextIs (step (State.withFetchWord
    (start plain 0x80000000 [] [])
    16 0x0404))
    (fun t => t.pc == 0x1008) = true := by decide

/-- V46.7. -/
theorem test_br32 : nextIs (step (State.withFetchWord
    (start plain 0x80000000 [] [])
    32 0xE8007FFF))
    (fun t => t.pc == 0x10FFE) = true := by decide

/-- V46.9. -/
theorem test_bt16 : nextIs (step (State.withFetchWord
    (start plain 0x80000001 [] [])
    16 0x0808))
    (fun t => t.pc == 0x1010) = true := by decide

/-- V46.11. -/
theorem test_bf16 : nextIs (step (State.withFetchWord
    (start plain 0x80000000 [] [])
    16 0x0FF8))
    (fun t => t.pc == 0xFF0) = true := by decide

/-- V46.13. -/
theorem test_bt32 : nextIs (step (State.withFetchWord
    (start plain 0x80000001 [] [])
    32 0xE8601000))
    (fun t => t.pc == 0x3000) = true := by decide

/-- V46.15. -/
theorem test_bf32 : nextIs (step (State.withFetchWord
    (start plain 0x80000000 [] [])
    32 0xE840FFFE))
    (fun t => t.pc == 0xFFC) = true := by decide

/-- V46.17. -/
theorem test_jmp16 : nextIs (step (State.withFetchWord
    (start plain 0x80000000 [(1, 0x20000401)] [])
    16 0x7804))
    (fun t => t.pc == 0x20000400) = true := by decide

/-- V46.19. -/
theorem test_jsr16 : nextIs (step (State.withFetchWord
    (start plain 0x80000000 [(1, 0x3001)] [])
    16 0x7805))
    (fun t => t.reg 15 == 0x1002 && t.pc == 0x3000) = true := by decide

/-- V46.21. -/
theorem test_bsr32 : nextIs (step (State.withFetchWord
    (start plain 0x80000000 [] [])
    32 0xE0000800))
    (fun t => t.reg 15 == 0x1004 && t.pc == 0x2000) = true := by decide

/-- V46.25. -/
theorem test_jmpix16 : nextIs (step (State.withFetchWord
    (start { plain with bct := true } 0x80000000 [(30, 0x20000000), (1, 0x123456FF)] [])
    16 0x39E0))
    (fun t => t.pc == 0x20000FF0) = true := by decide

/-- V46.27. -/
theorem test_jmpix16_trap : nextIs (step (State.withFetchWord
    (start plain 0x80000100 [] [(0x10, 0x6001)])
    16 0x39E1))
    (fun t => t.epsr == 0x80000100 && t.epc == 0x1000 && t.psr == 0x80040000 && t.pc == 0x6000) = true := by decide

/-- V47.1. -/
theorem test_ld16b : nextIs (step (State.withFetchWord
    (start plain 0x80000000 [(1, 0x2000)] [(0x2000, 0x8091A2B3)])
    16 0x8140))
    (fun t => t.reg 2 == 0xB3 && t.pc == 0x1002) = true := by decide

/-- V47.4. -/
theorem test_ld32b : nextIs (step (State.withFetchWord
    (start plain 0x80000000 [(1, 0x1004)] [(0x2000, 0x8091A2B3)])
    32 0xD8410FFF))
    (fun t => t.reg 2 == 0x80 && t.pc == 0x1004) = true := by decide

/-- V47.5. -/
theorem test_ld32bs : nextIs (step (State.withFetchWord
    (start plain 0x80000000 [(1, 0x2000)] [(0x2000, 0x8091A2B3)])
    32 0xD8414003))
    (fun t => t.reg 2 == 0xFFFFFF80 && t.pc == 0x1004) = true := by decide

/-- V47.7. -/
theorem test_ld16h : nextIs (step (State.withFetchWord
    (start plain 0x80000000 [(1, 0x2000)] [(0x2000, 0x8091A2B3)])
    16 0x8941))
    (fun t => t.reg 2 == 0x8091 && t.pc == 0x1002) = true := by decide

/-- V47.9. -/
theorem test_ld32h : nextIs (step (State.withFetchWord
    (start plain 0x80000000 [(1, 2)] [(0x2000, 0x8091A2B3)])
    32 0xD8411FFF))
    (fun t => t.reg 2 == 0xA2B3 && t.pc == 0x1004) = true := by decide

/-- V47.10. -/
theorem test_ld32hs : nextIs (step (State.withFetchWord
    (start plain 0x80000000 [(1, 0x2000)] [(0x2000, 0x8091A2B3)])
    32 0xD8415001))
    (fun t => t.reg 2 == 0xFFFF8091 && t.pc == 0x1004) = true := by decide

/-- V47.12. -/
theorem test_ld16w : nextIs (step (State.withFetchWord
    (start plain 0x80000000 [(1, 0x1F84)] [(0x2000, 0x8091A2B3)])
    16 0x915F))
    (fun t => t.reg 2 == 0x8091A2B3 && t.pc == 0x1002) = true := by decide

/-- V47.14. -/
theorem test_ld16wsp : nextIs (step (State.withFetchWord
    (start plain 0x80000000 [(14, 0x1C04)] [(0x2000, 0x8091A2B3)])
    16 0x9F3F))
    (fun t => t.reg 1 == 0x8091A2B3 && t.pc == 0x1002) = true := by decide

/-- V47.16. -/
theorem test_ld32w : nextIs (step (State.withFetchWord
    (start plain 0x80000000 [(1, 0xFFFFE004)] [(0x2000, 0x8091A2B3)])
    32 0xD8412FFF))
    (fun t => t.reg 2 == 0x8091A2B3 && t.pc == 0x1004) = true := by decide

/-- V47.18. -/
theorem test_st16b : nextIs (step (State.withFetchWord
    (start plain 0x80000000 [(1, 0x2000), (2, 0x123456AB)] [])
    16 0xA141))
    (fun t => t.mem.load false 0x2001 .byte == 0xAB && t.pc == 0x1002) = true := by decide

/-- V47.19. -/
theorem test_st32b : nextIs (step (State.withFetchWord
    (start plain 0x80000000 [(1, 0x2000), (2, 0xFFFFFF01)] [])
    32 0xDC410FFF))
    (fun t => t.mem.load false 0x2FFF .byte == 1 && t.pc == 0x1004) = true := by decide

/-- V47.20. -/
theorem test_st16h : nextIs (step (State.withFetchWord
    (start plain 0x80000000 [(1, 0x2000), (2, 0x1234ABCD)] [])
    16 0xA941))
    (fun t => t.mem.load false 0x2002 .half == 0xABCD && t.pc == 0x1002) = true := by decide

/-- V47.21. -/
theorem test_st32h : nextIs (step (State.withFetchWord
    (start plain 0x80000000 [(1, 0x2000), (2, 0x1234ABCD)] [])
    32 0xDC411800))
    (fun t => t.mem.load false 0x3000 .half == 0xABCD && t.pc == 0x1004) = true := by decide

/-- V47.22. -/
theorem test_st16w : nextIs (step (State.withFetchWord
    (start plain 0x80000000 [(1, 0x2000), (2, 0x11223344)] [])
    16 0xB140))
    (fun t => t.mem.load false 0x2000 .word == 0x11223344 && t.pc == 0x1002) = true := by decide

/-- V47.23. -/
theorem test_st16wsp : nextIs (step (State.withFetchWord
    (start plain 0x80000000 [(14, 0x2000), (2, 0xCAFEBABE)] [])
    16 0xB940))
    (fun t => t.mem.load false 0x2080 .word == 0xCAFEBABE && t.pc == 0x1002) = true := by decide

/-- V48.1. -/
theorem test_ldm32 : nextIs (step (State.withFetchWord
    (start plain 0x80000000 [(1, 0x2000)] [(0x2000, 0x11111111), (0x2004, 0x22222222), (0x2008, 0x33333333), (0x200C, 0x44444444)])
    32 0xD0811C23))
    (fun t => t.reg 4 == 0x11111111 && t.reg 5 == 0x22222222 && t.reg 6 == 0x33333333 && t.reg 7 == 0x44444444 && t.pc == 0x1004) = true := by decide

/-- V48.5. -/
theorem test_ldm32_trap : nextIs (step (State.withFetchWord
    (start plain 0x80000300 [(1, 0x2002)] [(0x2000, 0x11111111), (0x2004, 0x22222222), (0x2008, 0x33333333), (0x200C, 0x44444444)])
    32 0xD0811C20))
    (fun t => t.epsr == 0x80000300 && t.epc == 0x1000 && t.psr == 0x80010200 && t.pc == 0) = true := by decide

/-- V48.6. -/
theorem test_stm32 : nextIs (step (State.withFetchWord
    (start plain 0x80000000 [(1, 0x2000), (4, 0xA4), (5, 0xA5), (6, 0xA6), (7, 0xA7)] [])
    32 0xD4811C23))
    (fun t => t.mem.load false 0x2000 .word == 0xA4 && t.mem.load false 0x2004 .word == 0xA5 && t.mem.load false 0x2008 .word == 0xA6 && t.mem.load false 0x200C .word == 0xA7 && t.pc == 0x1004) = true := by decide

/-- V48.9. -/
theorem test_push16 : nextIs (step (State.withFetchWord
    (start plain 0x80000000 [(14, 0x3000), (4, 4), (5, 5), (6, 6), (7, 7), (8, 8), (9, 9), (10, 0xA), (11, 0xB), (15, 0x15)] [])
    16 0x14D8))
    (fun t => t.spvSp == 0x2FDC && t.mem.load false 0x2FFC .word == 0x15 && t.mem.load false 0x2FF8 .word == 0xB && t.mem.load false 0x2FF4 .word == 0xA && t.mem.load false 0x2FF0 .word == 9 && t.mem.load false 0x2FEC .word == 8 && t.mem.load false 0x2FE8 .word == 7 && t.mem.load false 0x2FE4 .word == 6 && t.mem.load false 0x2FE0 .word == 5 && t.mem.load false 0x2FDC .word == 4 && t.pc == 0x1002) = true := by decide

/-- V48.13. -/
theorem test_push16_trap : nextIs (step (State.withFetchWord
    (start plain 0x80000100 [(14, 0x3000)] [])
    16 0x14C9))
    (fun t => t.epsr == 0x80000100 && t.epc == 0x1000 && t.psr == 0x80040000 && t.pc == 0) = true := by decide

/-- V48.15. -/
theorem test_pop16 : nextIs (step (State.withFetchWord
    (start plain 0x80000000 [(14, 0x2000)] [(0x2000, 0x11111111), (0x2004, 0x22222222), (0x2008, 0x4001)])
    16 0x1492))
    (fun t => t.reg 4 == 0x11111111 && t.reg 5 == 0x22222222 && t.reg 15 == 0x4001 && t.spvSp == 0x200C && t.pc == 0x4000) = true := by decide

/-- V48.18. -/
theorem test_pop16_trap : nextIs (step (State.withFetchWord
    (start plain 0x80000100 [(14, 0x2000)] [])
    16 0x149F))
    (fun t => t.epsr == 0x80000100 && t.epc == 0x1000 && t.psr == 0x80040000 && t.pc == 0) = true := by decide

/-- V48.19. -/
theorem test_ipush16 : nextIs (step (State.withFetchWord
    (start { plain with nest := true } 0x80000000 [(14, 0x3000), (0, 0xA0), (1, 0xA1), (2, 0xA2), (3, 0xA3), (12, 0xAC), (13, 0xAD)] [])
    16 0x1462))
    (fun t => t.spvSp == 0x2FE8 && t.mem.load false 0x2FFC .word == 0xAD && t.mem.load false 0x2FF8 .word == 0xAC && t.mem.load false 0x2FF4 .word == 0xA3 && t.mem.load false 0x2FF0 .word == 0xA2 && t.mem.load false 0x2FEC .word == 0xA1 && t.mem.load false 0x2FE8 .word == 0xA0 && t.pc == 0x1002) = true := by decide

/-- V48.20. -/
theorem test_ipop16 : nextIs (step (State.withFetchWord
    (start { plain with nest := true } 0x80000000 [(14, 0x2000)] [(0x2000, 0xB0), (0x2004, 0xB1), (0x2008, 0xB2), (0x200C, 0xB3), (0x2010, 0xBC), (0x2014, 0xBD)])
    16 0x1463))
    (fun t => t.reg 0 == 0xB0 && t.reg 1 == 0xB1 && t.reg 2 == 0xB2 && t.reg 3 == 0xB3 && t.reg 12 == 0xBC && t.reg 13 == 0xBD && t.spvSp == 0x2018 && t.pc == 0x1002) = true := by decide

/-- V48.21. -/
theorem test_ipush16_trap : nextIs (step (State.withFetchWord
    (start plain 0x80000100 [(14, 0x3000)] [])
    16 0x1462))
    (fun t => t.epsr == 0x80000100 && t.epc == 0x1000 && t.psr == 0x80040000 && t.pc == 0) = true := by decide

/-- V48.22. -/
theorem test_nie16 : nextIs (step (State.withFetchWord
    ({ start { plain with nest := true } 0x80210000 [(14, 0x3000)] [] with epc := 0x1234, epsr := 0x80000140 })
    16 0x1460))
    (fun t => t.spvSp == 0x2FF8 && t.psr == 0x80210140 && t.mem.load false 0x2FFC .word == 0x1234 && t.mem.load false 0x2FF8 .word == 0x80000140 && t.pc == 0x1002) = true := by decide

/-- V48.23. -/
theorem test_nir16 : nextIs (step (State.withFetchWord
    (start { plain with nest := true } 0x80210140 [(14, 0x2FF8)] [(0x2FF8, 0x141), (0x2FFC, 0x1235)])
    16 0x1461))
    (fun t => t.spvSp == 0x3000 && t.psr == 0x141 && t.epsr == 0x141 && t.epc == 0x1235 && t.pc == 0x1234) = true := by decide

/-- V48.24. -/
theorem test_nie16_trap : nextIs (step (State.withFetchWord
    ({ start { plain with nest := true } 0x100 [] [] with userSp := 0x3000 })
    16 0x1460))
    (fun t => t.epsr == 0x100 && t.epc == 0x1000 && t.psr == 0x80050000 && t.pc == 0) = true := by decide

/-- V48.25. -/
theorem test_bpush16h : nextIs (step (State.withFetchWord
    (start { plain with bct := true } 0x80000004 [(23, 0x20000100), (24, 0x20000200), (25, 0x20000180), (30, 0x20001000), (1, 0x1234ABCD)] [])
    16 0x14E4))
    (fun t => t.reg 25 == 0x20000182 && t.mem.load false 0x20000180 .half == 0xABCD && t.pc == 0x1002) = true := by decide

/-- V48.26. -/
theorem test_bpush16w : nextIs (step (State.withFetchWord
    (start { plain with bct := true } 0x80000004 [(23, 0x20000100), (24, 0x20000200), (25, 0x20000180), (30, 0x20001000), (1, 0x1234ABCD)] [])
    16 0x14E6))
    (fun t => t.reg 25 == 0x20000184 && t.mem.load false 0x20000180 .word == 0x1234ABCD && t.pc == 0x1002) = true := by decide

/-- V48.29. -/
theorem test_bpop16h : nextIs (step (State.withFetchWord
    (start { plain with bct := true } 0x80000004 [(23, 0x20000100), (24, 0x20000200), (25, 0x20000180), (30, 0x20001000)] [(0x2000017C, 0xAABBCCDD)])
    16 0x14A8))
    (fun t => t.reg 2 == 0xAABB && t.reg 25 == 0x2000017E && t.pc == 0x1002) = true := by decide

/-- V48.30. -/
theorem test_bpop16w : nextIs (step (State.withFetchWord
    (start { plain with bct := true } 0x80000004 [(23, 0x20000100), (24, 0x20000200), (25, 0x20000180), (30, 0x20001000)] [(0x2000017C, 0xAABBCCDD)])
    16 0x14AA))
    (fun t => t.reg 2 == 0xAABBCCDD && t.reg 25 == 0x2000017C && t.pc == 0x1002) = true := by decide

/-- V49.1. -/
theorem test_mfcr32 : nextIs (step (State.withFetchWord
    (start plain 0x80000141 [] [])
    32 0xC0006021))
    (fun t => t.reg 1 == 0x80000141 && t.pc == 0x1004) = true := by decide

/-- V49.6. -/
theorem test_mtcr32 : nextIs (step (State.withFetchWord
    (start plain 0x80000000 [(1, 0xFFFFFFFF)] [])
    32 0xC0016420))
    (fun t => t.psr == 0x80FF03C1 && t.pc == 0x1004) = true := by decide

/-- V49.23. -/
theorem test_mfcr32_trap : nextIs (step (State.withFetchWord
    (start plain 0x100 [] [])
    32 0xC0006021))
    (fun t => t.epsr == 0x100 && t.epc == 0x1000 && t.psr == 0x80050000 && t.pc == 0) = true := by decide

/-- V49.24. -/
theorem test_mtcr32_trap : nextIs (step (State.withFetchWord
    (start plain 0x100 [(1, 0x400)] [])
    32 0xC0016421))
    (fun t => t.epsr == 0x100 && t.epc == 0x1000 && t.psr == 0x80050000 && t.pc == 0) = true := by decide

/-- V49.26. -/
theorem test_rte32 : nextIs (step (State.withFetchWord
    ({ start plain 0x80000000 [] [] with epsr := 0x141, epc := 0x2001 })
    32 0xC0004020))
    (fun t => t.psr == 0x141 && t.pc == 0x2000) = true := by decide

/-- V49.28. -/
theorem test_rte32_trap : nextIs (step (State.withFetchWord
    (start plain 0x100 [] [])
    32 0xC0004020))
    (fun t => t.epsr == 0x100 && t.epc == 0x1000 && t.psr == 0x80050000 && t.pc == 0) = true := by decide

/-- V49.29. -/
theorem test_stop32 : nextIs (step (State.withFetchWord
    (start plain 0x80000000 [] [])
    32 0xC0004820))
    (fun t => t.run == .stop && t.pc == 0x1004) = true := by decide

/-- V49.30. -/
theorem test_doze32 : nextIs (step (State.withFetchWord
    (start plain 0x80000000 [] [])
    32 0xC0005020))
    (fun t => t.run == .doze && t.pc == 0x1004) = true := by decide

/-- V49.31. -/
theorem test_wait32 : nextIs (step (State.withFetchWord
    (start plain 0x80000000 [] [])
    32 0xC0004C20))
    (fun t => t.run == .wait && t.pc == 0x1004) = true := by decide

/-- V49.33. -/
theorem test_sync32 : nextIs (step (State.withFetchWord
    (start plain 0x80000000 [] [])
    32 0xC0000420))
    (fun t => t.pc == 0x1004) = true := by decide

/-- V49.35. -/
theorem test_trap32 : nextIs (step (State.withFetchWord
    (start plain 0x141 [] [(0x40, 0x8000)])
    32 0xC0002020))
    (fun t => t.epsr == 0x141 && t.epc == 0x1000 && t.psr == 0x80100001 && t.pc == 0x8000) = true := by decide

/-- V49.41. -/
theorem test_bmset32 : nextIs (step (State.withFetchWord
    (start { plain with bct := true } 0x80000000 [] [])
    32 0xC0001020))
    (fun t => t.psr == 0x80000004 && t.pc == 0x1004) = true := by decide

/-- V49.42. -/
theorem test_bmclr32 : nextIs (step (State.withFetchWord
    (start { plain with bct := true } 4 [] [])
    32 0xC0001420))
    (fun t => t.psr == 0 && t.pc == 0x1004) = true := by decide

/-- V49.43. -/
theorem test_bmset32_trap : nextIs (step (State.withFetchWord
    (start plain 0x80000100 [] [])
    32 0xC0001020))
    (fun t => t.epsr == 0x80000100 && t.epc == 0x1000 && t.psr == 0x80040000 && t.pc == 0) = true := by decide

/-- V49.44. -/
theorem test_bkpt16 : nextIs (step (State.withFetchWord
    (start plain 0x80000100 [] [(0x1C, 0x9000)])
    16 0x0000))
    (fun t => t.epsr == 0x80000100 && t.epc == 0x1000 && t.psr == 0x80070000 && t.pc == 0x9000) = true := by decide

/-- V20.1. -/
theorem test_ld32w_trap : nextIs (step (State.withFetchWord
    (start plain 0x80000100 [(2, 0x2002)] [(4, 0x4000), (0x2000, 0x44332211), (0x2004, 0x88776655)])
    32 0xD8222000))
    (fun t => t.epsr == 0x80000100 && t.epc == 0x1000 && t.psr == 0x80010000 && t.pc == 0x4000) = true := by decide

/-- V20.4. -/
theorem test_ld16h_trap : nextIs (step (State.withFetchWord
    (start plain 0x80000100 [(2, 0x2001)] [(4, 0x4000)])
    16 0x8A20))
    (fun t => t.epsr == 0x80000100 && t.epc == 0x1000 && t.psr == 0x80010000 && t.pc == 0x4000) = true := by decide

/-- V20.6. -/
theorem test_st32w_trap : nextIs (step (State.withFetchWord
    (start plain 0x80000000 [(1, 5), (2, 0x2001)] [(4, 0x4000), (0x20, 0x7000)])
    32 0xDC222000))
    (fun t => t.epsr == 0x80000000 && t.epc == 0x1000 && t.psr == 0x80080000 && t.pc == 0x7000) = true := by decide

/-- V49.40. -/
theorem test_trap32_vbr : nextIs (step (State.withFetchWord
    ({ start plain 0x80000100 [] [(0x20000444, 0x20000801)] with vbr := 0x20000400 }) 32 0xC0002420))
    (fun t => t.epsr == 0x80000100 && t.epc == 0x1000 && t.psr == 0x80110000 && t.pc == 0x20000800) = true := by decide

/-- V40.26: RY - RX. -/
theorem test_rsub32 : nextIs (exec (.rsub32 3 2 1) (start plain 0x80000000 [(1, 3), (2, 10)] []))
    (fun t => t.reg 3 == 0xFFFFFFF9 && t.pc == 0x1004) = true := by decide

/-- V41.17. -/
theorem test_not16 : nextIs (exec (.not16 1) (start plain 0x80000000 [(1, 0xF0F0A5A5)] []))
    (fun t => t.reg 1 == 0x0F0F5A5A && t.pc == 0x1002) = true := by decide

/-- The value of V41.17, by rule R206. -/
theorem test_not32 : nextIs (exec (.not32 3 1) (start plain 0x80000000 [(1, 0xF0F0A5A5)] []))
    (fun t => t.reg 3 == 0x0F0F5A5A && t.pc == 0x1004) = true := by decide

/-- V42.34. -/
theorem test_mov32 : nextIs (exec (.mov32 3 1) (start plain 0x80000000 [(1, 0x12345678)] []))
    (fun t => t.reg 3 == 0x12345678 && t.pc == 0x1004) = true := by decide

/-- V40.44. -/
theorem test_movf32 : nextIs (exec (.movf32 3 1) (start plain 0x80000000 [(1, 0x55), (3, 0xAA)] []))
    (fun t => t.reg 3 == 0x55 && t.pc == 0x1004) = true := by decide

/-- V40.43 with C = 1, and RZ unchanged with C = 0. -/
theorem test_movt32 : (nextIs (exec (.movt32 3 1) (start plain 0x80000001 [(1, 0x55), (3, 0xAA)] []))
    (fun t => t.reg 3 == 0x55) && nextIs (exec (.movt32 3 1) (start plain 0x80000000 [(1, 0x55), (3, 0xAA)] []))
    (fun t => t.reg 3 == 0xAA && t.pc == 0x1004)) = true := by decide

/-- Rule R287: bit 20 alone. -/
theorem test_bgeni32 : nextIs (exec (.bgeni32 3 20) (start plain 0x80000000 [] []))
    (fun t => t.reg 3 == 0x00100000 && t.pc == 0x1004) = true := by decide

/-- V46.18. -/
theorem test_rts16 : nextIs (exec .rts16 (start plain 0x80000000 [(15, 0x2468)] []))
    (fun t => t.pc == 0x2468) = true := by decide

/-- V48.1. -/
theorem test_ldq32 : nextIs (exec (.ldq32 1) (start plain 0x80000000 [(1, 0x2000)] [(0x2000, 0x11111111), (0x200C, 0x44444444)]))
    (fun t => t.reg 4 == 0x11111111 && t.reg 7 == 0x44444444 && t.pc == 0x1004) = true := by decide

/-- V48.6. -/
theorem test_stq32 : nextIs (exec (.stq32 1) (start plain 0x80000000 [(1, 0x2000), (4, 0xA4), (7, 0xA7)] []))
    (fun t => t.mem.load false 0x2000 .word == 0xA4 && t.mem.load false 0x200C .word == 0xA7 && t.pc == 0x1004) = true := by decide

/-! ### Where the statements' hypotheses hold -/

/-- Supervisor mode with every option, at 0x1000, exceptions and interrupts enabled, the stack at 0x3000. -/
def sup : State := start Config.default 0x80000140 [(14, 0x3000)] []

/-- User mode, else as `sup`. -/
def usr : State := start Config.default 0x00000140 [(14, 0x3000)] []

/-- No option configured. -/
def bare : State := start plain 0x80000100 [(14, 0x3000)] []

theorem witness_decode_of_encode :
    (Instr.addu32 31 0 7).wf = true ∧ (Instr.bgeni32 31 31).wf = true ∧ (Instr.push16 1 8).wf = true := by
  decide

theorem witness_encode_of_decode :
    0xC7FF < 65536 ∧ 0x003F < 65536 ∧ decodeParcels 0xC7FF 0x003F = .ok (.addu32 31 31 31)
      ∧ decodeParcels 0 0xFFFF = .ok .bkpt16 := by
  decide

theorem witness_step_runs_decoded_instruction :
    ∃ s : State, s = sup.withFetchWord 32 0xC4410023 ∧ s.cfg.bigEndian = false ∧ Undisturbed s
      ∧ decodeBytes s.bytesAtPc = .ok (.addu32 3 1 2) ∧ (Instr.addu32 3 1 2).wf = true ∧ Fetchable s.tick s.pc
      ∧ Fetchable s.tick (s.pc + 2) := by
  refine ⟨_, rfl, ?_⟩
  unfold Undisturbed Fetchable
  decide

/-- `sup` on another platform. -/
def onPlatform (g : List Region) : State := { sup with cfg := { Config.default with platform := g } }

/-- An access of the buses past the cache that the platform answers with ERROR. -/
theorem answeredError_of_error (s : State) (a : Word) (w : Width) (k : AccessKind) (sp : Bool)
    (h : s.checkAccess a w k sp = .ok () ∧ (s.cfg.tcip && isTcip a) = false ∧ s.isCached a k = .ok false
      ∧ (s.slave k false a = none ∨ s.slave k false a = some .error)) : AnsweredError s a w k sp :=
  ⟨h.1, h.2.1, false, h.2.2.1, nofun, h.2.2.2⟩

theorem witness_illegal_word_traps :
    ∃ s : State, s = sup.withFetchWord 16 0x7C01 ∧ Undisturbed s ∧ s.tick.fetchInstr = .ok (.error .unassigned16)
      ∧ VectorReads s.tick (syncVector s 4) s.pc 0 := by
  refine ⟨_, rfl, ?_⟩
  unfold Undisturbed VectorReads
  decide

theorem witness_refused_fetch_traps :
    (∃ s : State, s = { usr with pc := 0xE0000000 } ∧ Undisturbed s ∧ s.cfg.bigEndian = false
      ∧ AccessRefused s.tick s.pc .half .fetch false ∧ VectorReads s.tick (syncVector s 2) s.pc 0)
    ∧ (∃ s : State, s = { onPlatform [⟨0, 0x100, .ram, []⟩, ⟨0x1000, 2, .error, []⟩] with pc := 0x1000 } ∧ Undisturbed s
      ∧ s.cfg.bigEndian = false ∧ AccessRefused s.tick s.pc .half .fetch false
      ∧ VectorReads s.tick (syncVector s 2) s.pc 0)
    ∧ ∃ s : State, s = (onPlatform [⟨0, 0x1002, .ram, []⟩]).withFetchWord 32 0xC4410023 ∧ Undisturbed s ∧ s.cfg.bigEndian = false
      ∧ VectorReads s.tick (syncVector s 2) s.pc 0 ∧ Fetchable s.tick s.pc
      ∧ isLong (s.mem.load s.cfg.bigEndian s.pc .half).toNat = true
      ∧ AccessRefused s.tick (s.pc + 2) .half .fetch false := by
  refine ⟨⟨_, rfl, ?_, by decide, .inl (by decide), ?_⟩,
    ⟨_, rfl, ?_, by decide, .inr (answeredError_of_error _ _ _ _ _ (by decide)), ?_⟩,
    ⟨_, rfl, ?_, by decide, ?_, ?_, by decide, .inr (answeredError_of_error _ _ _ _ _ (by decide))⟩⟩ <;>
    unfold_projs <;> simp only [Undisturbed, VectorReads, Fetchable] <;> decide

theorem witness_add_results :
    sup.hasReg 0 = true ∧ sup.hasReg 15 = true ∧ sup.hasReg 30 = true := by
  decide

theorem witness_subtract_results :
    sup.hasReg 0 = true ∧ sup.hasReg 15 = true ∧ sup.hasReg 30 = true := by
  decide

theorem witness_carry_results :
    sup.hasReg 0 = true ∧ sup.hasReg 15 = true ∧ sup.hasReg 30 = true := by
  decide

theorem witness_logic_results :
    sup.hasReg 0 = true ∧ sup.hasReg 15 = true ∧ sup.hasReg 30 = true := by
  decide

theorem witness_register_shift_results :
    sup.hasReg 0 = true ∧ sup.hasReg 15 = true ∧ sup.hasReg 30 = true := by
  decide

theorem witness_multiply_results :
    sup.hasReg 0 = true ∧ sup.hasReg 15 = true ∧ sup.hasReg 30 = true := by
  decide

theorem witness_conditional_results :
    sup.hasReg 0 = true ∧ sup.hasReg 30 = true := by
  decide

theorem witness_transfer_results :
    sup.hasReg 0 = true ∧ sup.hasReg 30 = true ∧ 2 ^ 18 - 1 < 2 ^ 18 := by
  decide

theorem witness_extract_results :
    sup.hasReg 0 = true ∧ sup.hasReg 30 = true := by
  decide

theorem witness_compare_results :
    sup.hasReg 0 = true ∧ sup.hasReg 30 = true ∧ 65535 < 65536 := by
  decide

theorem witness_immediate_shift_results :
    sup.hasReg 0 = true ∧ sup.hasReg 30 = true ∧ 0 < 32 ∧ 31 < 32 := by
  decide

theorem witness_shift_into_carry_results :
    sup.hasReg 0 = true ∧ sup.hasReg 30 = true ∧ 0 < 32 ∧ 31 < 32 := by
  decide

theorem witness_bit_results :
    sup.hasReg 0 = true ∧ sup.hasReg 30 = true ∧ 0 < 32 ∧ 16 ≤ 16 ∧ 31 < 32 := by
  decide

theorem witness_branch_results :
    sup.pc.getLsbD 0 = false ∧ 2 ^ 10 - 1 < 2 ^ 10 ∧ 2 ^ 16 - 1 < 2 ^ 16 := by
  decide

theorem witness_jump_results :
    sup.hasReg 15 = true ∧ 3 < 4 ∧ sup.cfg.bct = true := by
  decide

theorem witness_call_results :
    sup.hasReg 15 = true ∧ 2 ^ 26 - 1 < 2 ^ 26 ∧ sup.pc.getLsbD 0 = false := by
  decide

theorem witness_load_results :
    sup.hasReg 0 = true ∧ sup.hasReg 14 = true ∧ Allowed sup (sup.baseOffset 14 31 0) .byte .read true
      ∧ Allowed sup (sup.baseOffset 14 31 1) .half .read true ∧ Allowed sup (sup.baseOffset 14 31 2) .word .read true
      ∧ Allowed sup (sup.baseOffset 0 0 2) .word .read false := by
  unfold Allowed
  decide

theorem witness_literal_load_results :
    ∃ a : Word, a = (sup.pc + BitVec.ofNat 32 (4 * (255 - 127))) &&& 0xFFFFFFFC ∧ Allowed sup a .word .read false
      ∧ sup.hasReg 7 = true ∧ 127 < 128 ∧ 65535 < 65536 := by
  refine ⟨_, rfl, ?_⟩
  unfold Allowed
  decide

theorem witness_store_results :
    sup.hasReg 0 = true ∧ sup.hasReg 14 = true ∧ Allowed sup (sup.baseOffset 14 31 0) .byte .write true
      ∧ Allowed sup (sup.baseOffset 14 31 1) .half .write true ∧ Allowed sup (sup.baseOffset 14 31 2) .word .write true
      ∧ Allowed sup (sup.baseOffset 0 0 2) .word .write false := by
  unfold Allowed
  decide

theorem witness_memory_byte_order :
    0 < Width.byte.bytes ∧ 3 < Width.word.bytes ∧ Width.word.covers 0xFFFFFFFE 0xFFFFFFFD = false
      ∧ Width.word.covers 0xFFFFFFFE 2 = false := by
  decide

theorem witness_misaligned_access_traps :
    (∃ s : State, s = start Config.default 0x80000140 [(1, 0x2001)] [] ∧ s.psrMM = false
      ∧ dataAccess s (.st32w 0 1 0) = some (0x2001, .word, .write, false) ∧ Width.word.aligned 0x2001 = false
      ∧ VectorReads s (syncVector s 1) s.pc 0)
    ∧ ∃ s : State, s = start Config.default 0x80000144 [(23, 0x2000), (24, 0x2007), (25, 0x2003)] []
      ∧ s.cfg.bct = true ∧ s.psrBM = true ∧ s.psrMM = false ∧ s.hasReg 7 = true
      ∧ Width.half.aligned s.bsp = false ∧ Width.word.aligned s.bsp = false ∧ s.bsp.toNat + 4 ≤ s.top.toNat
      ∧ s.fpB.toNat + 2 ≤ s.bsp.toNat := by
  refine ⟨⟨_, rfl, ?_⟩, ⟨_, rfl, ?_⟩⟩
  · unfold VectorReads
    decide
  · decide

theorem witness_misaligned_access_aligned_down :
    ∃ s : State, s = start plain 0x80000200 [] [] ∧ s.psrMM = true ∧ s.cfg.unalignedHw = false
      ∧ Width.half.aligned 0xFFFFFFFF = false ∧ Width.word.aligned 0x2002 = false := by
  exact ⟨_, rfl, by decide⟩

theorem witness_misaligned_access_split :
    ∃ s : State, s = start Config.default 0x80000200 [] [] ∧ s.psrMM = true ∧ s.cfg.unalignedHw = true
      ∧ Width.word.aligned 0x2003 = false ∧ Allowed s (0x2003 &&& 0xFFFFFFFC) .word .read false
      ∧ Allowed s ((0x2003 &&& 0xFFFFFFFC) + 4) .word .read false
      ∧ ∀ p ∈ writeParts (BitVec.toNat 0x2003#32 % 4) .word, Allowed s (0x2003 + BitVec.ofNat 32 p.1) p.2 .write false := by
  refine ⟨_, rfl, ?_⟩
  unfold Allowed
  decide

/-- A platform of memory that answers user-mode data with ERROR, whatever the bufferable bit is (20_memory.md rule R88). -/
def noUserData : State := { onPlatform [⟨0, 0x2000, .ram, []⟩, ⟨0x2000, 0x1000, .ram, [(3, 1)]⟩] with r := sup.r.set 1 0x2000 }

theorem noUserData_slave (t : State) (h : t = noUserData ∨ t = { noUserData with psr := 0x00000140 }) :
    t.slave .read false 0x2000 = if t.psrS then some .ram else some .error := by
  have e : ∀ b, ((BitVec.ofBool false ++ BitVec.ofBool b ++ BitVec.ofBool true ++ BitVec.ofBool true : BitVec 4) &&& 3 == 1) = false
      ∧ ((BitVec.ofBool false ++ BitVec.ofBool b ++ BitVec.ofBool false ++ BitVec.ofBool true : BitVec 4) &&& 3 == 1) = true := by
    decide
  rcases h with rfl | rfl
  · show some (if ([(3, 1)] : List (BitVec 4 × BitVec 4)).any (fun p => (BitVec.ofBool false
      ++ BitVec.ofBool (Config.freeBit 0 (2 ^ 33 + 0x2000)) ++ BitVec.ofBool true ++ BitVec.ofBool true : BitVec 4) &&& p.1 == p.2)
      then RegionKind.error else .ram) = _
    simp only [List.any_cons, List.any_nil, (e _).1]
    rfl
  · show some (if ([(3, 1)] : List (BitVec 4 × BitVec 4)).any (fun p => (BitVec.ofBool false
      ++ BitVec.ofBool (Config.freeBit 0 (2 ^ 33 + 0x2000)) ++ BitVec.ofBool false ++ BitVec.ofBool true : BitVec 4) &&& p.1 == p.2)
      then RegionKind.error else .ram) = _
    simp only [List.any_cons, List.any_nil, (e _).2]
    rfl

theorem witness_refused_access_traps :
    (∃ s : State, s = start Config.default 0x00000140 [(1, 0xE0000000)] []
      ∧ dataAccess s (.ld32w 0 1 0) = some (0xE0000000, .word, .read, false) ∧ Width.word.aligned 0xE0000000 = true
      ∧ AccessRefused s 0xE0000000 .word .read false ∧ VectorReads s (syncVector s 2) s.pc 0)
    ∧ (∃ s : State, s = { noUserData with psr := 0x00000140 }
      ∧ dataAccess s (.ld32w 0 1 0) = some (0x2000, .word, .read, false)
      ∧ AccessRefused s 0x2000 .word .read false ∧ VectorReads s (syncVector s 2) s.pc 0)
    ∧ ∃ s : State, s = { onPlatform [⟨0, 0x2000, .ram, []⟩] with r := sup.r.set 1 0xFFFFFFFC }
      ∧ dataAccess s (.st32w 0 1 0) = some (0xFFFFFFFC, .word, .write, false)
      ∧ AccessRefused s 0xFFFFFFFC .word .write false ∧ VectorReads s (syncVector s 2) s.pc 0 := by
  refine ⟨⟨_, rfl, by decide, by decide, .inl (by decide), ?_⟩, ⟨_, rfl, by decide, .inr
      (answeredError_of_error _ _ _ _ _ ⟨by decide, by decide, by decide, .inr ?_⟩), ?_⟩,
    ⟨_, rfl, by decide, .inr (answeredError_of_error _ _ _ _ _ (by decide)), ?_⟩⟩
  case refine_2 => exact noUserData_slave _ (.inr rfl)
  all_goals (unfold VectorReads; decide)

/-- The stack guard on for supervisor mode, between 0x2000 and 0x3000, with the stack at its upper bound. -/
def guarded : State := { sup with sgcrSge := true, sgcrSgp := true, sgbr := 0x2000, sgtr := 0x3000 }

/-- The stack guard on, in an interrupt of vector 32 with the interrupt stack pointer. -/
def guardedIrq : State :=
  { sup with psr := 0x80200000, chrIse := true, sgcrSge := true, sgisbr := 0x2000, sgistr := 0x3000, intSp := 0x1FFF }

theorem witness_stack_guard_traps :
    dataAccess guarded (.ld32w 0 14 0) = some (0x3000, .word, .read, true) ∧ Width.word.aligned 0x3000 = true
      ∧ guarded.cfg.stackGuard = true ∧ guarded.sgcrSge = true ∧ guarded.bank14 ≠ .interrupt
      ∧ guarded.sgcrSgp = guarded.psrS ∧ BitVec.toNat 0x3000#32 < BitVec.toNat 0x3000#32 + Width.word.bytes
      ∧ dataAccess guardedIrq (.ld32b 0 14 0) = some (0x1FFF, .byte, .read, true) ∧ guardedIrq.bank14 = .interrupt
      ∧ BitVec.toNat 0x1FFF#32 < guardedIrq.sgisbr.toNat ∧ VectorReads guarded (syncVector guarded 2) guarded.pc 0 := by
  unfold VectorReads
  decide

/-- `sup` with an address in r1 and a word in r2. -/
def at1 (a v : Word) : State := { sup with r := (sup.r.set 1 a).set 2 v }

theorem witness_tightly_coupled_range_in_user_mode :
    ∃ s : State, s = start Config.default 0x00000140 [(1, 0xEFFFFFFC)] []
      ∧ dataAccess s (.st32w 0 1 0) = some (0xEFFFFFFC, .word, .write, false) ∧ Width.word.aligned 0xEFFFFFFC = true
      ∧ s.psrS = false ∧ 0xE0000000 ≤ BitVec.toNat 0xEFFFFFFC#32 ∧ BitVec.toNat 0xEFFFFFFC#32 < 0xF0000000
      ∧ VectorReads s (syncVector s 2) s.pc 0 := by
  refine ⟨_, rfl, ?_⟩
  unfold VectorReads
  decide

theorem witness_tightly_coupled_registers :
    sup.cfg.tcip = true ∧ sup.psrS = true ∧ sup.hasReg 2 = true ∧ sup.hasReg 1 = true ∧ sup.cfg.cache ≠ .absent
      ∧ sup.cfg.security = true ∧ 0xE000EFA0 ≤ sup.cfg.secrAddr.toNat ∧ sup.cfg.secrAddr.toNat < 0xE000EFB0
      ∧ sup.cfg.secrAddr.toNat % 4 = 0 ∧ 3 < sup.cfg.cacheRegions ∧ BitVec.getLsbD 1#32 0 = true ∧ sup.cirWritten = false := by
  decide

theorem witness_tightly_coupled_cer :
    ∃ s : State, s = at1 0xE000F000 1 ∧ 0xE000F000 = s.baseOffset 1 0 2 ∧ s.checkAccess 0xE000F000 .word .read (1 == 14) = .ok ()
      ∧ s.checkAccess 0xE000F000 .word .write (1 == 14) = .ok () := by
  exact ⟨_, rfl, by decide⟩

theorem witness_tightly_coupled_cir :
    ∃ s : State, s = at1 0xE000F004 1 ∧ 0xE000F004 = s.baseOffset 1 0 2 ∧ s.checkAccess 0xE000F004 .word .read (1 == 14) = .ok ()
      ∧ s.checkAccess 0xE000F004 .word .write (1 == 14) = .ok () := by
  exact ⟨_, rfl, by decide⟩

theorem witness_tightly_coupled_crcr0 :
    ∃ s : State, s = at1 0xE000F008 1 ∧ 0xE000F008 = s.baseOffset 1 0 2 ∧ s.checkAccess 0xE000F008 .word .read (1 == 14) = .ok ()
      ∧ s.checkAccess 0xE000F008 .word .write (1 == 14) = .ok () := by
  exact ⟨_, rfl, by decide⟩

theorem witness_tightly_coupled_crcr3 :
    ∃ s : State, s = at1 0xE000F014 1 ∧ 0xE000F014 = s.baseOffset 1 0 2 ∧ s.checkAccess 0xE000F014 .word .read (1 == 14) = .ok ()
      ∧ s.checkAccess 0xE000F014 .word .write (1 == 14) = .ok () := by
  exact ⟨_, rfl, by decide⟩

theorem witness_tightly_coupled_secr :
    ∃ s : State, s = at1 0xE000EFA0 1 ∧ 0xE000EFA0 = s.baseOffset 1 0 2 ∧ s.checkAccess 0xE000EFA0 .word .read (1 == 14) = .ok ()
      ∧ s.checkAccess 0xE000EFA0 .word .write (1 == 14) = .ok () := by
  exact ⟨_, rfl, by decide⟩

theorem witness_tightly_coupled_inv_one :
    ∃ s : State, s = at1 0xE000F004 0x2012 ∧ 0xE000F004 = s.baseOffset 1 0 2 ∧ s.checkAccess 0xE000F004 .word .read (1 == 14) = .ok ()
      ∧ s.checkAccess 0xE000F004 .word .write (1 == 14) = .ok () ∧ s.reg 2 = 0x2012
      ∧ BitVec.getLsbD 0x2012#32 0 = false ∧ BitVec.getLsbD 0x2012#32 s.cfg.cirInvOneBit = true := by
  exact ⟨_, rfl, by decide⟩

theorem witness_tightly_coupled_inv_none :
    ∃ s : State, s = at1 0xE000F004 0x2010 ∧ 0xE000F004 = s.baseOffset 1 0 2 ∧ s.checkAccess 0xE000F004 .word .read (1 == 14) = .ok ()
      ∧ s.checkAccess 0xE000F004 .word .write (1 == 14) = .ok () ∧ s.reg 2 = 0x2010
      ∧ BitVec.getLsbD 0x2010#32 0 = false ∧ BitVec.getLsbD 0x2010#32 s.cfg.cirInvOneBit = false := by
  exact ⟨_, rfl, by decide⟩

theorem witness_tightly_coupled_seu_first :
    ∃ s : State, s = at1 0xE000EFA4 1 ∧ 0xE000EFA4 = s.baseOffset 1 0 2 ∧ s.checkAccess 0xE000EFA4 .word .read (1 == 14) = .ok ()
      ∧ s.checkAccess 0xE000EFA4 .word .write (1 == 14) = .ok () ∧ s.rangeAt 0xE000EFA4 = none
      ∧ BitVec.toNat 0xE000EFA4#32 / 4 ≠ s.cfg.secrAddr.toNat / 4 ∧ BitVec.toNat 0xE000EFA4#32 % 4 = 0 := by
  exact ⟨_, rfl, by decide⟩

theorem witness_tightly_coupled_seu_last :
    ∃ s : State, s = at1 0xE000EFAC 1 ∧ 0xE000EFAC = s.baseOffset 1 0 2 ∧ s.checkAccess 0xE000EFAC .word .read (1 == 14) = .ok ()
      ∧ s.checkAccess 0xE000EFAC .word .write (1 == 14) = .ok () ∧ s.rangeAt 0xE000EFAC = none
      ∧ BitVec.toNat 0xE000EFAC#32 / 4 ≠ s.cfg.secrAddr.toNat / 4 ∧ BitVec.toNat 0xE000EFAC#32 % 4 = 0 := by
  exact ⟨_, rfl, by decide⟩

theorem witness_tightly_coupled_reserved :
    ∃ s : State, s = at1 0xE000F018 0 ∧ dataAccess s (.ld32w 0 1 0) = some (0xE000F018, .word, .read, false)
      ∧ Width.word.aligned 0xE000F018 = true ∧ s.checkAccess 0xE000F018 .word .read false = .ok () ∧ s.slave .read false 0xE000F018 = none := by
  exact ⟨_, rfl, by decide⟩

theorem witness_tightly_coupled_reserved_last :
    ∃ s : State, s = at1 0xE000FFFC 0 ∧ dataAccess s (.ld32w 0 1 0) = some (0xE000FFFC, .word, .read, false)
      ∧ Width.word.aligned 0xE000FFFC = true ∧ s.checkAccess 0xE000FFFC .word .read false = .ok () ∧ s.slave .read false 0xE000FFFC = none := by
  exact ⟨_, rfl, by decide⟩

theorem witness_tightly_coupled_absent :
    ∃ s : State, s = at1 0xE0000000 0 ∧ dataAccess s (.ld32w 0 1 0) = some (0xE0000000, .word, .read, false)
      ∧ Width.word.aligned 0xE0000000 = true ∧ s.checkAccess 0xE0000000 .word .read false = .ok () ∧ s.slave .read false 0xE0000000 = none := by
  exact ⟨_, rfl, by decide⟩

theorem witness_tightly_coupled_absent_last :
    ∃ s : State, s = at1 0xEFFFFFFC 0 ∧ dataAccess s (.ld32w 0 1 0) = some (0xEFFFFFFC, .word, .read, false)
      ∧ Width.word.aligned 0xEFFFFFFC = true ∧ s.checkAccess 0xEFFFFFFC .word .read false = .ok () ∧ s.slave .read false 0xEFFFFFFC = none := by
  exact ⟨_, rfl, by decide⟩

theorem witness_tightly_coupled_byte :
    ∃ s : State, s = at1 0xE000F000 0 ∧ dataAccess s (.st32b 0 1 0) = some (0xE000F000, .byte, .write, false)
      ∧ s.checkAccess 0xE000F000 .byte .write false = .ok () := by
  exact ⟨_, rfl, by decide⟩

/-- INV_ONE makes the line that INV_ADDR names hold nothing (20_memory.md rule R111). -/
theorem test_invalidate_one : nextIs (exec (.st32w 2 1 0) { at1 0xE000F004 0x2012 with cer := 1 })
    (fun t => t.old == [⟨0, 0x2010⟩, ⟨0x2020, 2 ^ 32⟩] && t.cirWritten && t.held == t.old) = true := by decide

/-- A field of SECR whose mechanism is not configured reads 0: FM with the fast multiplier (rule R464). -/
theorem test_secr_fast_multiply : nextIs (exec (.st32w 2 1 0) (at1 0xE000EFA0 0xFFFFFFFF))
    (fun t => t.secr == 0x01FF1B9F) = true := by decide

/-- An access where the spec has no register goes to the platform: a device that reads 0x55, and memory that is fetched
from (60_exceptions.md rule R458, 10_state.md rule R65). -/
theorem test_platform_in_tightly_coupled_range :
    nextIs (exec (.ld32w 0 1 0) { at1 0xE0001000 0 with answers := [⟨0xE0001000, 4, .value 0x55, []⟩] }) (fun t => t.reg 0 == 0x55)
      && nextIs (step ({ sup with pc := 0xE0002000, answers := [⟨0xE0002000, 16, .ram, []⟩] }.withFetchWord 16 0x6C00))
        (fun t => t.pc == 0xE0002002) = true := by decide

/-- What a device answers: a store to it changes nothing, a read of one that is silent never ends (rules R83, R89). -/
theorem test_devices :
    nextIs (exec (.st32w 2 1 0) { at1 0x2000 7 with answers := [⟨0x2000, 4, .device, []⟩] }) (fun t => t.mem == [])
      && (match exec (.ld32w 2 1 0) { at1 0x2000 7 with answers := [⟨0x2000, 4, .silent, []⟩] } with
        | .fault f => f == .stuckBus
        | _ => false) = true := by decide

/-- A parcel of a device that was stored to is not fetched (20_memory.md rule R107). -/
theorem test_device_store_is_stale :
    nextIs (exec (.st32w 2 1 0) { at1 0x2000 7 with answers := [⟨0x2000, 4, .value 0x6C00, []⟩] }) (fun t =>
      match t.fetchParcel 0x2002 with
        | .error (.refuse .staleFetch) => true
        | _ => false) = true := by decide

/-- A word of the security extension unit other than SECR: 0, or what the platform has there (60_exceptions.md rule R464,
92_eei_decisions.md D31). -/
theorem test_reserved_security_words :
    nextIs (exec (.ld32w 0 1 0) (at1 0xE000EFAC 0)) (fun t => t.reg 0 == 0)
      && nextIs (exec (.ld32w 0 1 0) { at1 0xE000EFA4 0 with answers := [⟨0xE000EFA0, 16, .value 0x55, []⟩] })
        (fun t => t.reg 0 == 0x55)
      && nextIs (exec (.ld32w 0 1 0) { at1 0xE000EFA0 0 with secr := 7, answers := [⟨0xE000EFA0, 16, .value 0x55, []⟩] })
        (fun t => t.reg 0 == 7) = true := by decide

/-- A line holds what is at the address, whatever access filled it, and nothing where ERROR answers (20_memory.md rules
R88, R106). -/
theorem test_filled : { noUserData with psr := 0x00000140, mem := [(0x2001, 5)] }.filled 0x2000 .word = some 0x500
    ∧ (onPlatform [⟨0x2000, 4, .error, []⟩]).filled 0x2000 .word = none := by decide

/-- `noUserData` in user mode after an invalidation of the whole cache. -/
def emptied : State := { noUserData with psr := 0x00000140, held := [], old := [], mem := [(0x2005, 9)] }

/-- After an invalidation nothing is hit; after a fill the line is, whatever the mode, and no other line (rules R106,
R108). -/
theorem test_hit_needs_fill : emptied.hit 0x2004 .word = none ∧ (emptied.fill 0x2008).held = [⟨0x2000, 0x2010⟩]
    ∧ (emptied.fill 0x2008).hit 0x2010 .word = none
    ∧ ((emptied.fill 0x2008).fill 0x2000).held = [⟨0x2000, 0x2010⟩] := by decide

/-- Another master's write makes old what the cache may hold of it, and nothing else (rule R499 of
70_reset_and_hazards.md). -/
theorem test_outdate : ((emptied.fill 0x2008).outdate ⟨0x2004, 0x3000⟩).old = [⟨0x2004, 0x2010⟩]
    ∧ (emptied.outdate ⟨0x2004, 0x3000⟩).old = [] := by decide

/-- The lanes of the bytes that may be old. -/
theorem test_old_lanes : { sup with old := [⟨0x2001, 0x2003⟩] }.oldLanes 0x2000 .word = 0x00FFFF00
    ∧ { onPlatform [] with cfg := { Config.default with bigEndian := true }, old := [⟨0x2001, 0x2002⟩] }.oldLanes 0x2000 .half
      = 0xFF := by decide

/-- A slave that refuses user data answers the supervisor (rule R88). -/
theorem test_attributes : noUserData.slave .read false 0x2000 = some .ram
    ∧ { noUserData with psr := 0x00000140 }.slave .read false 0x2000 = some .error :=
  ⟨noUserData_slave _ (.inl rfl), noUserData_slave _ (.inr rfl)⟩

/-- Two regions: 0 of 64KB at 0 with AP = 2, 1 of 128 bytes at 0x8000 with AP = 1 and NX. -/
def regions : State :=
  { sup with ccrMp := 1, capr := 0x00000602, pacr := #v[0x1F, 0x800D, 0, 0, 0, 0, 0, 0] }

theorem controls_last (a : Word) (h : InRegion (regions.region 1) a) : Controls regions 1 a := by
  refine ⟨by decide, by unfold RegionOn; decide, h, ?_⟩
  intro j h1 h2
  have h8 : j < 8 := h2
  unfold RegionOn
  interval_cases j <;> exact fun on => absurd on (by decide)

theorem witness_mpu_decides_access :
    regions.ccrMp = 1 ∧ 0 < regions.cfg.mpuRegions
      ∧ (∀ i < regions.cfg.mpuRegions, RegionOn (regions.region i) → RegionLegal (regions.region i))
      ∧ Controls regions 1 0x8000 ∧ Controls regions 1 0x807F
      ∧ Permitted regions.psrS (regions.capr.toNat / 2 ^ (8 + 2 * 1) % 4) (regions.capr.getLsbD 1) .write
      ∧ ¬ Permitted regions.psrS (regions.capr.toNat / 2 ^ (8 + 2 * 1) % 4) (regions.capr.getLsbD 1) .fetch
      ∧ ∀ i < regions.cfg.mpuRegions, RegionOn (regions.region i) → ¬ InRegion (regions.region i) 0x10000 := by
  refine ⟨by decide, by decide, ?_, controls_last _ ?_, controls_last _ ?_, ?_, ?_, ?_⟩ <;>
    unfold_projs <;> simp only [RegionOn, RegionLegal, InRegion, Permitted] <;> decide

theorem witness_multi_store_results :
    (∀ k ≤ 15, sup.hasReg (0 + k) = true) ∧ sup.hasReg 14 = true ∧ 15 < 32 ∧ 8 ≤ 8
      ∧ AllowedWords sup (sup.reg 14) 16 .write true ∧ AllowedWords sup (sup.sp - 36) 9 .write true
      ∧ sup.cfg.nest = true ∧ AllowedWords sup (sup.sp - 24) 6 .write true := by
  unfold AllowedWords Allowed
  decide

theorem witness_multi_load_results :
    (∀ k ≤ 3, sup.hasReg (12 + k) = true) ∧ sup.hasReg 11 = true ∧ 11 < 12 ∧ sup.hasReg 3 = true ∧ 8 ≤ 8
      ∧ AllowedWords sup (sup.reg 11) 4 .read false ∧ AllowedWords sup sup.sp 9 .read true
      ∧ sup.cfg.nest = true ∧ AllowedWords sup sup.sp 6 .read true := by
  unfold AllowedWords Allowed
  decide

theorem witness_nest_results :
    sup.cfg.nest = true ∧ sup.psrS = true ∧ AllowedWords sup (sup.sp - 8) 2 .write true
      ∧ AllowedWords sup sup.sp 2 .read true := by
  unfold AllowedWords Allowed
  decide

theorem witness_multi_misaligned_traps :
    ∃ s : State, s = start Config.default 0x80000340 [(8, 0x2001), (14, 0x3002)] []
      ∧ (∀ k ≤ 3, s.hasReg (4 + k) = true) ∧ s.hasReg 8 = true ∧ Width.word.aligned (s.reg 8) = false ∧ 7 < 8
      ∧ Width.word.aligned s.sp = false ∧ s.cfg.nest = true ∧ s.psrS = true
      ∧ VectorReads s (syncVector s 1) s.pc 0 := by
  refine ⟨_, rfl, ?_⟩
  unfold VectorReads
  decide

/-- The stack guard lets two words below the stack pass, and R14 is the base. -/
def partWay : State := { guarded with sgbr := 0x2FF8 }

/-- The stack guard lets two words from the stack up pass. -/
def partWayUp : State := { guarded with sgtr := 0x3008 }

theorem witness_multi_partial_execution :
    multiAccess partWayUp (.stm32 4 14 3) = some ([4, 5, 6, 7], 0x3000, .write, true) ∧ 2 < [4, 5, 6, 7].length
      ∧ Width.word.aligned 0x3000 = true ∧ AllowedWords partWayUp (doneAddr (.stm32 4 14 3) [4, 5, 6, 7] 0x3000 2) 2 .write true
      ∧ partWayUp.checkAccess (nextAddr (.stm32 4 14 3) [4, 5, 6, 7] 0x3000 2) .word .write true = .error (.raise .accessError) := by
  unfold AllowedWords Allowed
  decide

theorem witness_multi_partial_execution_pop :
    multiAccess partWayUp (.pop16 1 3) = some ([4, 5, 6, 15], 0x3000, .read, true) ∧ 2 < [4, 5, 6, 15].length
      ∧ Width.word.aligned 0x3000 = true ∧ AllowedWords partWayUp (doneAddr (.pop16 1 3) [4, 5, 6, 15] 0x3000 2) 2 .read true
      ∧ partWayUp.checkAccess (nextAddr (.pop16 1 3) [4, 5, 6, 15] 0x3000 2) .word .read true = .error (.raise .accessError) := by
  unfold AllowedWords Allowed
  decide

theorem witness_multi_partial_execution_push :
    multiAccess partWay (.push16 1 3) = some ([4, 5, 6, 15], 0x2FF0, .write, true) ∧ 2 < [4, 5, 6, 15].length
      ∧ Width.word.aligned 0x2FF0 = true ∧ AllowedWords partWay (doneAddr (.push16 1 3) [4, 5, 6, 15] 0x2FF0 2) 2 .write true
      ∧ partWay.checkAccess (nextAddr (.push16 1 3) [4, 5, 6, 15] 0x2FF0 2) .word .write true = .error (.raise .accessError) := by
  unfold AllowedWords Allowed
  decide

theorem witness_multi_partial_execution_nie :
    ∃ s : State, s = { partWay with sgbr := 0x2FFC } ∧ s.cfg.nest = true ∧ s.psrS = true ∧ Width.word.aligned s.sp = true
      ∧ AllowedWords s (s.sp - BitVec.ofNat 32 (4 * 1)) 1 .write true
      ∧ s.checkAccess (s.sp - BitVec.ofNat 32 (4 * 1) - 4) .word .write true = .error (.raise .accessError)
      ∧ nextIs (exec .nie16 s) (fun _ => true) = true := by
  refine ⟨_, rfl, ?_⟩
  unfold AllowedWords Allowed
  decide

theorem witness_multi_partial_execution_nir :
    ∃ s : State, s = { partWayUp with sgtr := 0x3004 } ∧ s.cfg.nest = true ∧ s.psrS = true ∧ AllowedWords s s.sp 1 .read true
      ∧ s.checkAccess (s.sp + BitVec.ofNat 32 (4 * 1)) .word .read true = .error (.raise .accessError)
      ∧ nextIs (exec .nir16 s) (fun _ => true) = true := by
  refine ⟨_, rfl, ?_⟩
  unfold AllowedWords Allowed
  decide

theorem witness_multi_partial_execution_completes :
    nextIs (exec (.stm32 4 14 3) partWayUp) (fun t => t.epc == 0x1000) = true
      ∧ nextIs (exec (.push16 1 3) partWay) (fun t => t.epc == 0x1000) = true := by
  decide

theorem witness_multi_partial_execution_load :
    ∃ t, exec (.pop16 1 3) partWayUp = .next t := by
  exact ⟨_, rfl⟩

/-- An stm32 of r4 to r7 at 0x1000, with an interrupt presented and PSR.IC = 1. -/
def cutting : State :=
  { (start Config.default 0x800001C0 [(1, 0x2000)] [(0x1000, 0x1C23D481)]) with moves := [.cut 2], irq := some 32 }

/-- An ldm32 of r4 to r7, else as `cutting`. -/
def cuttingLoad : State := { cutting with mem := (start Config.default 0 [] [(0x1000, 0x1C23D081)]).mem }

/-- The vector of `cutting` can be read whatever is in memory. -/
theorem cutting_vector (u : State) (hu : u = { cutting.tick with moves := [] } ∨ u = { cuttingLoad.tick with moves := [] })
    (m : Memory) (st : List Stale) (held old : List Span) :
    ∃ w, ({ u with mem := m, stale := st, held := held, old := old }.enter 32 0x1000).vectorWord 32 = .ok w := by
  refine ⟨m.load false 0x80 .word, ?_⟩
  rcases hu with rfl | rfl <;>
    simp [State.vectorWord, State.vectorAddr, State.fetchRead, State.checkAccess, State.mpuCheck, State.busRead,
      State.isCached, State.cacheRead, State.cacheAnswer, State.platformRead, State.slave, State.rangeAt, refusesAttributes, regionAt, State.answerRead, isTcip, State.enter, State.tick, cutting,
      cuttingLoad, start, Config.default, State.reset, State.setRegs, State.setReg]

theorem witness_interrupt_inside_multi_access :
    ∃ u : State, cutting.moves = .cut 2 :: [] ∧ cutting.run = .normal ∧ cutting.dpPending = false
      ∧ cutting.irq = some 32 ∧ cutting.psrIE = true ∧ cutting.psrEE = true ∧ cutting.psrIC = true
      ∧ u = { cutting.tick with moves := [] } ∧ u.fetchInstr = .ok (.ok (.stm32 4 1 3))
      ∧ multiAccess u (.stm32 4 1 3) = some ([4, 5, 6, 7], 0x2000, .write, false) ∧ 0 < 2 ∧ 2 < [4, 5, 6, 7].length
      ∧ AllowedWords u (doneAddr (.stm32 4 1 3) [4, 5, 6, 7] 0x2000 2) 2 .write false
      ∧ ∀ m stale held old, ∃ w, ({ u with mem := m, stale := stale, held := held, old := old }.enter 32 cutting.pc).vectorWord 32 = .ok w := by
  refine ⟨_, by decide, by decide, by decide, by decide, by decide, by decide, by decide, rfl, by decide, by decide, by decide,
    by decide, ?_, cutting_vector _ (.inl rfl)⟩
  unfold AllowedWords Allowed
  decide

theorem witness_interrupt_inside_load :
    ∃ u : State, cuttingLoad.moves = .cut 2 :: [] ∧ cuttingLoad.irq = some 32 ∧ cuttingLoad.psrIC = true
      ∧ u = { cuttingLoad.tick with moves := [] } ∧ u.fetchInstr = .ok (.ok (.ldm32 4 1 3))
      ∧ multiAccess u (.ldm32 4 1 3) = some ([4, 5, 6, 7], 0x2000, .read, false)
      ∧ AllowedWords u (doneAddr (.ldm32 4 1 3) [4, 5, 6, 7] 0x2000 2) 2 .read false
      ∧ ∀ m stale held old, ∃ w, ({ u with mem := m, stale := stale, held := held, old := old }.enter 32 cuttingLoad.pc).vectorWord 32 = .ok w := by
  refine ⟨_, by decide, by decide, by decide, rfl, by decide, by decide, ?_, cutting_vector _ (.inr rfl)⟩
  unfold AllowedWords Allowed
  decide

/-- Another master's write after the second transfer of an LDM is seen by the third (20_memory.md rule R81). -/
theorem test_write_between_transfers :
    nextIs (exec (.ldm32 4 1 3) { at1 0x2000 0 with between := [[], [(0x2008, 0x77), (0x2000, 0x66)]] })
      (fun t => t.reg 4 == 0 && t.reg 6 == 0x77 && t.mem.load false 0x2000 .word == 0x66 && t.between == []) = true := by decide

/-- A reset inside the stm32 leaves the words it has stored (70_reset_and_hazards.md rule R470). -/
theorem test_reset_inside_stm32 :
    nextIs (step { cutting with r := cutting.r.set 4 0x11 |>.set 5 0x22 |>.set 6 0x33, psr := 0x80000000, moves := [.resetIn 2] })
      (fun t => t.mem.load false 0x2000 .word == 0x11 && t.mem.load false 0x2004 .word == 0x22
        && t.mem.load false 0x2008 .word == 0 && t.psr == 0x80000000 && t.pc == 0) = true := by decide

/-- A reset inside a split store leaves its first part (rules R76, R470). -/
theorem test_reset_inside_split_store :
    nextIs (step { start Config.default 0x80000200 [(1, 0x2001), (2, 0x44332211)] [(0x1000, 0x2000DC41)] with
        moves := [.resetIn 1] })
      (fun t => t.mem.load false 0x2000 .word == 0x1100 && t.psr == 0x80000000) = true := by decide

/-- The fast interrupt input ends low power and takes no interrupt (60_exceptions.md rule R465). -/
theorem test_wake : nextIs (step { sup with run := .stop, moves := [.wake] })
    (fun t => t.run == .normal && t.pc == sup.pc && t.psr == sup.psr) = true := by decide

/-- Binary translation mode, with the stack's registers given. -/
def translating (fp top bsp : Word) : State := start Config.default 0x80000144 [(23, fp), (24, top), (25, bsp)] []

theorem witness_binary_translation_stack_results :
    (translating 0x2000 0x2FFF 0x2FFC).psrBM = true ∧ (translating 0 0 0).cfg.bct = true ∧ 7 < 8
      ∧ (translating 0x2000 0x2FFF 0x2FFC).top.toNat < (translating 0x2000 0x2FFF 0x2FFC).bsp.toNat + Width.word.bytes
      ∧ (translating 0x2000 0x3000 0x2FFC).bsp.toNat + Width.word.bytes ≤ (translating 0x2000 0x3000 0x2FFC).top.toNat
      ∧ Allowed (translating 0x2000 0x3000 0x2FFC) (translating 0x2000 0x3000 0x2FFC).bsp .word .write false
      ∧ (translating 0x2001 0x3000 0x2004).bsp.toNat < (translating 0x2001 0x3000 0x2004).fpB.toNat + Width.word.bytes
      ∧ (translating 0x2000 0x3000 0x2004).fpB.toNat + Width.word.bytes ≤ (translating 0x2000 0x3000 0x2004).bsp.toNat
      ∧ Allowed (translating 0x2000 0x3000 0x2004) ((translating 0x2000 0x3000 0x2004).bsp - BitVec.ofNat 32 4) .word
        .read false := by
  unfold Allowed
  decide

theorem witness_control_register_reads :
    sup.psrS = true ∧ sup.hasReg 30 = true ∧ sup.cfg.vbr = true ∧ 0 < sup.cfg.gcrWidth ∧ 0 < sup.cfg.gsrWidth
      ∧ 0 < sup.cfg.mpuRegions ∧ sup.prsr.toNat < sup.cfg.mpuRegions ∧ sup.cfg.intSp = true ∧ sup.cfg.stackGuard = true
      ∧ sup.cfg.chrIseBit ≠ sup.cfg.chrIaeBit ∧ sup.cfg.sgeBit ≠ sup.cfg.sgpBit := by
  decide

theorem witness_control_register_writes :
    ∃ v : Word, v = sup.reg 14 ∧ sup.psrS = true ∧ sup.hasReg 14 = true ∧ sup.cfg.vbr = true ∧ 0 < sup.cfg.gcrWidth
      ∧ 0 < sup.cfg.gsrWidth ∧ 0 < sup.cfg.mpuRegions ∧ sup.prsr.toNat < sup.cfg.mpuRegions ∧ sup.cfg.intSp = true
      ∧ sup.cfg.stackGuard = true ∧ sup.requestsReset 31 0 v = false := by
  exact ⟨_, rfl, by decide⟩

theorem witness_privileged_instructions_trap_in_user_mode :
    usr.psrS = false ∧ usr.cfg.nest = true ∧ VectorReads usr (syncVector usr 5) usr.pc 0 := by
  unfold VectorReads
  decide

theorem witness_return_from_exception_results :
    sup.psrS = true ∧ sup.psr &&& psrMask sup.cfg = sup.psr
      ∧ ∃ u, sup.takeVector 32 sup.pc = .next u ∧ u.epsr = sup.psr := by
  exact ⟨by decide, by decide, _, rfl, rfl⟩

theorem witness_low_power_and_mode_results :
    sup.psrS = true ∧ sup.cfg.bct = true := by
  decide

theorem witness_trap_and_breakpoint_enter :
    3 < 4 ∧ sup.hadFdb = false ∧ { sup with hadFdb := true }.hadFdb = true
      ∧ VectorReads sup (syncVector sup 19) sup.pc 0 ∧ VectorReads sup (syncVector sup 7) sup.pc 0 := by
  unfold VectorReads
  decide

theorem witness_unconfigured_instructions_are_illegal :
    bare.cfg.bct = false ∧ bare.cfg.nest = false ∧ VectorReads bare (syncVector bare 4) bare.pc 0 := by
  unfold VectorReads
  decide

theorem witness_refusals_of_the_spec :
    (Instr.addu32 0 16 31).wf = true ∧ sup.psrS = true ∧ 31 ∈ namedRegs (.addu32 0 16 31) ∧ sup.hasReg 31 = false
      ∧ sup.hasReg 0 = true ∧ 15 < 16 ∧ (∀ k ≤ 3, sup.hasReg (4 + k) = true) ∧ 4 ≤ 4 ∧ 7 ≤ 4 + 3 ∧ 7 ≤ 7
      ∧ sup.cfg.bct = true ∧ sup.psrBM = false ∧ 7 < 8 := by
  decide

theorem witness_refused_control_registers :
    bare.psrS = true ∧ bare.hasReg 0 = true ∧ ¬ CrExists sup.cfg 3 0 ∧ ¬ CrExists sup.cfg 14 2 ∧ ¬ CrExists bare.cfg 11 0
      ∧ ¬ CrExists bare.cfg 7 4 := by
  unfold CrExists
  exact ⟨by decide, by decide, by decide, by decide, by decide, by decide⟩

/-- A misaligned access at the boundary comes before the interrupt even where neither entry can be finished (60_exceptions.md
rule R448 c): the instruction's own. -/
theorem test_misaligned_before_interrupt :
    (match step { (onPlatform [⟨0x1000, 0x10, .ram, []⟩, ⟨0x80, 4, .ram, []⟩]).withFetchWord 32 0xD8612000 with
        r := sup.r.set 1 0x2001, irq := some 32 } with
      | .fault f => f == .stuckVectorRead
      | _ => false) = true := by decide

theorem witness_failed_vector_read :
    ∃ s u v : State, s = onPlatform [⟨0x20, 4, .ram, []⟩] ∧ u = s.enter (syncVector s (BitVec.ofNat 8 (16 + 0))) s.pc
      ∧ u.vectorWord (syncVector s (BitVec.ofNat 8 (16 + 0))) = .error (.raise .accessError) ∧ v = u.enter 8 s.pc
      ∧ v.vectorWord 8 = .ok 0 := by
  exact ⟨_, _, _, rfl, rfl, by decide, rfl, by decide⟩

theorem witness_failed_vector_read_twice :
    ∃ s u v : State, s = onPlatform [] ∧ u = s.enter (syncVector s (BitVec.ofNat 8 (16 + 3))) s.pc
      ∧ u.vectorWord (syncVector s (BitVec.ofNat 8 (16 + 3))) = .error (.raise .accessError) ∧ v = u.enter 8 s.pc
      ∧ v.vectorWord 8 = .error (.raise .accessError) := by
  exact ⟨_, _, _, rfl, rfl, by decide, rfl, by decide⟩

theorem witness_software_reset_request :
    ∃ s : State, s = { start Config.default 0x80000100 [(1, 0xABCD0000)] [] with onReset := ⟨some [], [(1, 0x20), (1, 0x30)]⟩ }
      ∧ s.psrS = true ∧ s.hasReg 1 = true ∧ s.requestsReset 31 0 (s.reg 1) = true ∧ s.psrEE = true ∧ ResetVectorReads s
      ∧ { s with psr := 0x80000000 }.psrEE = false := by
  refine ⟨_, rfl, ?_⟩
  unfold ResetVectorReads
  decide

theorem witness_software_reset_request_unrecoverable :
    ∃ s : State, s = start Config.default 0x80000000 [(1, 0xABCD0000)] [] ∧ s.psrS = true ∧ s.hasReg 1 = true
      ∧ s.requestsReset 31 0 (s.reg 1) = true ∧ s.psrEE = false ∧ VectorReads s (syncVector s 8) s.pc 0 := by
  refine ⟨_, rfl, ?_⟩
  unfold VectorReads
  decide

theorem witness_software_reset_request_debug :
    ∃ s u : State, s = { sup with run := .debug, moves := [.debugCr 31 0 0xABCD0000] } ∧ u = { s.tick with moves := [] }
      ∧ s.run = .debug ∧ s.moves = .debugCr 31 0 0xABCD0000 :: [] ∧ s.requestsReset 31 0 0xABCD0000 = true
      ∧ ResetVectorReads u := by
  refine ⟨_, _, rfl, rfl, ?_⟩
  unfold ResetVectorReads
  decide

/-- The platform sees the request and resets its devices with the core: here its memory at 0, from which the reset vector
then comes (70_reset_and_hazards.md rule R472). -/
theorem test_software_reset_with_devices :
    nextIs (exec (.mtcr32 1 31 0) { start Config.default 0x80000100 [(1, 0xABCD0000)] [] with onReset := ⟨none, [(1, 0x20)]⟩ })
      (fun t => t.pc == 0x2000 && t.resetRequest && t.mem.byteAt 1 == 0x20 && t.onReset == SystemReset.keep
        && !t.tick.resetRequest) = true := by decide

/-- A device map that changes with the reset: the word at 0 is a device's, or nothing is there any more (rule R470). -/
theorem test_software_reset_new_map :
    nextIs (exec (.mtcr32 1 31 0) { start Config.default 0x80000100 [(1, 0xABCD0000)] [] with
        onReset := ⟨some [⟨0, 0x100, .value 0x8000, []⟩], []⟩ }) (fun t => t.pc == 0x8000) = true
      ∧ exec (.mtcr32 1 31 0) { start Config.default 0x80000100 [(1, 0xABCD0000)] [] with
        onReset := ⟨some [⟨0, 0x100, .error, []⟩], []⟩ } = .fault .stuckResetVector := by
  exact ⟨by decide, rfl⟩

theorem witness_reset_inputs :
    ∃ u : State, u = { sup.tick with moves := [] } ∧ { sup with moves := [.reset] }.moves = .reset :: []
      ∧ ResetVectorReads u ∧ { sup with moves := [.gprReset] }.moves = .gprReset :: []
      ∧ sup.cfg.security = true ∧ sup.cfg.gprReset = true := by
  refine ⟨_, rfl, ?_⟩
  unfold ResetVectorReads
  decide

theorem witness_interrupt_entry :
    ∃ s : State, s = { sup with irq := some 255 } ∧ s.moves = [] ∧ s.run = .normal ∧ s.dpPending = false
      ∧ s.psrIE = true ∧ s.psrEE = true ∧ s.tick.misalignedNext = false ∧ VectorReads s.tick 255 s.pc 0
      ∧ { s with psr := 0x80000100 }.psrIE = false := by
  refine ⟨_, rfl, ?_⟩
  unfold VectorReads
  decide

theorem witness_interrupt_entry_misaligned :
    (∃ s : State, s = { (sup.withFetchWord 32 0xD8612000) with r := sup.r.set 1 0x2001, irq := some 32 } ∧ s.moves = []
      ∧ s.run = .normal ∧ s.dpPending = false ∧ s.psrIE = true ∧ s.psrEE = true ∧ s.psrMM = false
      ∧ s.tick.fetchInstr = .ok (.ok (.ld32w 3 1 0)) ∧ dataAccess s.tick (.ld32w 3 1 0) = some (0x2001, .word, .read, false)
      ∧ Width.word.aligned 0x2001 = false ∧ VectorReads s.tick 1 s.pc 0)
    ∧ ∃ s : State, s = { (sup.withFetchWord 16 0x14D0) with spvSp := 0x3002, irq := some 32 }
      ∧ s.tick.fetchInstr = .ok (.ok (.push16 1 0)) ∧ s.psrIE = true ∧ s.psrEE = true
      ∧ multiAccess s.tick (.push16 1 0) = some ([15], 0x2FFE, .write, true) ∧ Width.word.aligned 0x2FFE = false
      ∧ VectorReads s.tick 1 s.pc 0 := by
  refine ⟨⟨_, rfl, ?_⟩, ⟨_, rfl, ?_⟩⟩ <;> unfold VectorReads <;> decide

theorem witness_interrupt_bank :
    ∃ t : State, t = (sup.enter 32 0x1000).jump 0x8001 ∧ Entered sup t 32 0x1000 0x8001 := by
  refine ⟨_, rfl, rfl, rfl, by decide, by decide, by decide, by decide, ?_, by decide,
    ⟨rfl, rfl, fun b => by cases b <;> rfl, rfl, rfl, rfl, rfl⟩, by constructor <;> rfl, fun _ => rfl⟩
  have low : ∀ k < 32, (k < 16 ∨ 24 ≤ k) → k ≠ 6 → k ≠ 8 → k ≠ 31 →
      ((sup.enter 32 0x1000).jump 0x8001).psr.getLsbD k = sup.psr.getLsbD k := by decide
  intro k h1 h2 h3 h4
  by_cases hk : k < 32
  · exact low k hk h1 h2 h3 h4
  · rw [BitVec.getLsbD_of_ge _ _ (by omega), BitVec.getLsbD_of_ge _ _ (by omega)]

theorem witness_low_power_interrupt :
    ∃ s u : State, s = { sup with run := .wait, irq := some 32 } ∧ u = { s.tick with run := .normal } ∧ s.moves = []
      ∧ s.run = .wait ∧ s.irq = some 32 ∧ s.dpPending = false ∧ s.psrIE = true ∧ s.psrEE = true ∧ u.misalignedNext = false
      ∧ VectorReads u 32 s.pc 0 := by
  refine ⟨_, _, rfl, rfl, ?_⟩
  unfold VectorReads
  decide

theorem witness_low_power_misaligned :
    (∃ s u : State, s = { (sup.withFetchWord 32 0xD8612000) with r := sup.r.set 1 0x2001, run := .wait, irq := some 32 }
      ∧ u = { s.tick with run := .normal } ∧ s.moves = [] ∧ s.dpPending = false ∧ s.psrIE = true ∧ s.psrEE = true
      ∧ s.psrMM = false ∧ u.fetchInstr = .ok (.ok (.ld32w 3 1 0))
      ∧ dataAccess u (.ld32w 3 1 0) = some (0x2001, .word, .read, false) ∧ Width.word.aligned 0x2001 = false
      ∧ VectorReads u 1 s.pc 0)
    ∧ ∃ s u : State, s = { (sup.withFetchWord 16 0x14D0) with spvSp := 0x3002, run := .stop, irq := some 32 }
      ∧ u = { s.tick with run := .normal } ∧ s.psrIE = true ∧ s.psrEE = true ∧ u.fetchInstr = .ok (.ok (.push16 1 0))
      ∧ multiAccess u (.push16 1 0) = some ([15], 0x2FFE, .write, true) ∧ Width.word.aligned 0x2FFE = false
      ∧ VectorReads u 1 s.pc 0 := by
  refine ⟨⟨_, _, rfl, rfl, ?_⟩, ⟨_, _, rfl, rfl, ?_⟩⟩ <;> unfold VectorReads <;> decide

theorem witness_low_power_waits_and_wakes :
    ∃ s : State, s = { sup with run := .wait, psr := 0x80000100 } ∧ s.moves = [] ∧ s.irq = none ∧ s.dpPending = false
      ∧ { s with irq := some 32 }.irq.isSome = true ∧ s.psrIE = false ∧ { s with run := .violation }.run = .violation := by
  exact ⟨_, rfl, by decide⟩

theorem witness_debug_and_violation_states :
    (∃ s : State, s = { sup with run := .violation } ∧ (∃ t, step s = .next t)
      ∧ (∀ ms, s.moves ≠ .reset :: ms) ∧ ∀ k ms, s.moves ≠ .resetIn k :: ms)
    ∧ ∀ m ∈ [Move.debugReg 30 5, .debugPc 0x2001, .debugCr 0 0 0xFFFFFFFF, .debugDp true, .debugMem 0x2000 5, .debugResume],
      { sup with run := .debug, moves := [m] }.run = .debug ∧ { sup with run := .debug, moves := [m] }.moves = m :: []
        ∧ { sup with run := .debug }.hasReg 30 = true := by
  exact ⟨⟨_, rfl, ⟨_, rfl⟩, nofun, nofun⟩, by decide⟩

/-- A run in low power has ended when no move to come wakes the core, and at `END_PC` (70_reset_and_hazards.md rule R498). -/
theorem test_run_ended :
    { sup with run := .stop, moves := [.gsr 1, .run] }.runEnded = true ∧ { sup with run := .stop, moves := [.run, .irq 32] }.runEnded = false
      ∧ { sup with run := .doze, moves := [.irq 32], cfg := { Config.default with endPc := some sup.pc } }.runEnded = true := by
  decide

theorem witness_address_watch :
    ∃ s u : State, s = { sup with moves := [.watch], hadMbee := true } ∧ s.run = .normal ∧ s.psrEE = true
      ∧ u = { s.tick with moves := [] } ∧ VectorReads u 7 s.pc 0 ∧ { s with psr := 0x80000000 }.psrEE = false := by
  refine ⟨_, _, rfl, by decide, by decide, rfl, ?_, by decide⟩
  unfold VectorReads
  decide

theorem witness_address_watch_pending :
    ∃ s u : State, s = { sup with dpPending := true } ∧ s.run = .normal ∧ s.moves = [] ∧ s.psrEE = true
      ∧ u = { s.tick with dpPending := false } ∧ VectorReads u 7 s.pc 0 := by
  refine ⟨_, _, rfl, by decide, by decide, by decide, rfl, ?_⟩
  unfold VectorReads
  decide

/-- The interrupt that ends low power is taken before the next instruction, also where it could cut one (rule R465). -/
theorem test_wake_cuts_nothing : nextIs (step { cutting with run := .wait })
    (fun t => t.epc == 0x1000 && t.mem == cutting.mem && t.stale == cutting.stale) = true := by decide

theorem witness_stored_code_and_cached_reads :
    ∃ a : Word, a = sup.baseOffset 14 0 2 ∧ sup.cfg.smcCoherent = false ∧ Allowed sup a .word .write (14 == 14)
      ∧ (∃ t, exec (.st32w 1 14 0) sup = .next t) ∧ sup.cer.getLsbD 0 = false ∧ sup.hasReg 14 = true ∧ sup.hasReg 1 = true := by
  refine ⟨_, rfl, by decide, ?_, ⟨_, rfl⟩, by decide, by decide, by decide⟩
  unfold Allowed
  decide

theorem witness_cached_read :
    ∃ s : State, s = { sup with cer := 1, crcr := #v[0x33, 0, 0, 0x20000013], old := [⟨0x3004, 0x3008⟩] } ∧ s.isCached 0x3000 .read = .ok true
      ∧ s.isCached 0x200003FC .read = .ok false ∧ s.checkAccess 0x3000 .word .read true = .ok ()
      ∧ (s.cfg.tcip && isTcip 0x3000) = false ∧ s.slave .read true 0x3000 = some .ram ∧ s.mayHitOld 0x3000 4 = false
      ∧ s.mayHitOld 0x3004 4 = true := by
  exact ⟨_, rfl, by decide⟩

theorem witness_step_keeps_invariant :
    ∃ s : State, s = sup.withFetchWord 32 0xC4410023 ∧ s.Inv ∧ nextIs (step s) (fun _ => true) = true := by
  exact ⟨_, rfl, ⟨by decide, by decide, by decide, by decide, by decide, by decide, by decide, by decide, by decide,
    by decide, by decide, by decide⟩, by decide⟩

theorem witness_step_keeps_invariant_whole :
    (sup.withFetchWord 32 0xC4410023).Inv := by
  constructor <;> decide

theorem witness_user_mode_is_confined :
    (Instr.trap32 3).wf = true ∧ usr.psrS = false ∧ usr.hadFdb = false ∧ (∃ t, exec (.trap32 3) usr = .next t)
      ∧ ∃ t, exec .sync32 usr = .next t := by
  exact ⟨by decide, by decide, by decide, ⟨_, rfl⟩, ⟨_, rfl⟩⟩

end Sys2Proof.Tests
end

section
/-! SUPPORT. The bits that a masked register implements: which bits a mask leaves out, and that setting an implemented
bit, or entering an exception, sets no other. -/

namespace Sys2Proof.Machine

/-- A word has no bit outside a mask exactly if every bit that the mask leaves out is 0. -/
theorem and_not_eq_zero_iff (a m : Word) :
    a &&& ~~~m = 0 ↔ ∀ k, m.getLsbD k = false → a.getLsbD k = false := by
  constructor
  · intro h k hk
    have hb : (a &&& ~~~m).getLsbD k = false := by rw [h]; exact BitVec.getLsbD_zero
    by_cases hlt : k < 32
    · simpa only [BitVec.getLsbD_and, BitVec.getLsbD_not, hk, hlt, decide_true, Bool.not_false, Bool.and_true] using hb
    · exact BitVec.getLsbD_of_ge a k (by omega)
  · intro h
    ext k hk
    have := h k
    simp only [BitVec.getLsbD_eq_getElem hk] at this
    cases hm : m[k] <;> simp_all

/-- A word written through a mask has no bit outside it. -/
@[simp] theorem and_mask_and_not (a m : Word) : (a &&& m) &&& ~~~m = 0 := by
  rw [and_not_eq_zero_iff]
  intro k hk
  simp [hk]

theorem getLsbD_setBit (w : Word) (i k : Nat) (b : Bool) (hk : k < 32) :
    (setBit w i b).getLsbD k = if k = i then b else w.getLsbD k := by
  have h1 : (1#32 <<< i).getLsbD k = decide (k = i) := by
    simp only [BitVec.getLsbD_shiftLeft, BitVec.getLsbD_one, hk]
    by_cases e : k = i
    · simp [e]
    · have : i ≤ k → k - i ≠ 0 := by omega
      simpa [e] using this
  cases b <;> simp only [setBit, Bool.false_eq_true, if_true, if_false, BitVec.getLsbD_or, BitVec.getLsbD_and,
    BitVec.getLsbD_not, h1, hk, decide_true, Bool.true_and] <;> by_cases e : k = i <;> simp only [e] <;> simp

/-- Setting a bit that a mask implements leaves the bits outside the mask 0. -/
theorem setBit_reserved (w m : Word) (i : Nat) (b : Bool) (hm : m.getLsbD i = true) (h : w &&& ~~~m = 0) :
    setBit w i b &&& ~~~m = 0 := by
  rw [and_not_eq_zero_iff] at h ⊢
  intro k hk
  by_cases hlt : k < 32
  · have hne : k ≠ i := by rintro rfl; simp [hm] at hk
    simpa [getLsbD_setBit w i k b hlt, hne] using h k hk
  · exact BitVec.getLsbD_of_ge _ k (by omega)

/-- The bits of PSR that every configuration implements. -/
theorem psrMask_implements (c : Config) (k : Nat) (h : k = 0 ∨ k = 6 ∨ k = 8 ∨ (16 ≤ k ∧ k < 24) ∨ k = 31) :
    (psrMask c).getLsbD k = true := by
  have hk : k < 32 := by omega
  have key : ∀ j < 32, (j = 0 ∨ j = 6 ∨ j = 8 ∨ (16 ≤ j ∧ j < 24) ∨ j = 31) →
      (0x80FF03C5#32).getLsbD j = true ∧ (0x80FF03C1#32).getLsbD j = true := by decide
  unfold psrMask
  split
  · exact (key k hk h).1
  · exact (key k hk h).2

theorem psrMask_bm (c : Config) (h : c.bct = true) : (psrMask c).getLsbD 2 = true := by
  simp [psrMask, h]

/-- Exception entry sets implemented bits of PSR only. -/
theorem psrEnter_reserved (p : Word) (c : Config) (vec : BitVec 8) (h : p &&& ~~~(psrMask c) = 0) :
    psrEnter p vec &&& ~~~(psrMask c) = 0 := by
  rw [and_not_eq_zero_iff] at h ⊢
  intro k hk
  have := psrMask_implements c k
  rw [psrEnter_bits, if_neg, if_neg, if_neg, h k hk] <;> intro e <;> simp_all

/-- Bit 0 of a control transfer's target is 0. -/
@[simp] theorem evenAddr_even (a : Word) : (evenAddr a).getLsbD 0 = false := by
  simp [evenAddr]

/-- Going on by an even number of bytes keeps bit 0 of the PC. -/
theorem add_even (a : Word) (len : Nat) (h : len % 2 = 0) : (a + BitVec.ofNat 32 len).getLsbD 0 = a.getLsbD 0 := by
  simp only [BitVec.getLsbD, Nat.testBit_zero, BitVec.toNat_add, BitVec.toNat_ofNat]
  congr 1
  rw [eq_iff_iff]
  omega

end Sys2Proof.Machine
end

section
/-! SUPPORT. What can stop an access: for each function of an access, from the checks to the transfers, that it raises
no other exception than a misaligned access or an access error. -/

namespace Sys2Proof.Machine

/-- What stops an access is no other exception than a misaligned access or an access error (20_memory.md rule R78). -/
def Abort.ofAccess : Abort → Bool
  | .raise .misaligned | .raise .accessError | .refuse _ | .stuck => true
  | .raise _ => false

theorem mpuRegion_ofAccess {s : State} {a : Word} {n : Nat} {e : Abort} (h : s.mpuRegion a n = .error e) :
    e.ofAccess = true := by
  induction n with
  | zero => cases h
  | succ n ih =>
    simp only [State.mpuRegion] at h
    split at h
    · exact ih h
    · split at h
      · cases h; rfl
      · split at h
        · cases h
        · exact ih h

theorem mpuCheck_ofAccess {s : State} {a : Word} {k : AccessKind} {e : Abort} (h : s.mpuCheck a k = .error e) :
    e.ofAccess = true := by
  unfold State.mpuCheck at h
  split at h
  · cases h
  · split at h
    · cases h; rfl
    · split at h
      · rename_i x hx
        cases h
        exact mpuRegion_ofAccess hx
      · cases h; rfl
      · split at h <;> cases h
        rfl

theorem checkAccess_ofAccess {s : State} {a : Word} {w : Width} {k : AccessKind} {sp : Bool} {e : Abort}
    (h : s.checkAccess a w k sp = .error e) : e.ofAccess = true := by
  unfold State.checkAccess at h
  split at h
  · cases h; rfl
  · split at h
    · cases h; rfl
    · exact mpuCheck_ofAccess h

theorem inCacheRegion_ofAccess {s : State} {a : Word} {n : Nat} {e : Abort} (h : s.inCacheRegion a n = .error e) :
    e.ofAccess = true := by
  induction n with
  | zero => cases h
  | succ n ih =>
    simp only [State.inCacheRegion] at h
    split at h
    · exact ih h
    · split at h
      · cases h; rfl
      · split at h
        · cases h
        · exact ih h

theorem isCached_ofAccess {s : State} {a : Word} {k : AccessKind} {e : Abort} (h : s.isCached a k = .error e) :
    e.ofAccess = true := by
  unfold State.isCached at h
  split at h
  · cases h
  · exact inCacheRegion_ofAccess h

theorem tcipReg_ofAccess {s : State} {a : Word} {w : Width} {e : Abort} (h : s.tcipReg a w = .error e) :
    e.ofAccess = true := by
  have only : e = .refuse .reservedTcipAccess := by
    simp only [State.tcipReg] at h
    split at h
    · split at h
      · cases h; rfl
      · repeat' split at h
        all_goals cases h
        rfl
    · split at h
      · repeat' split at h
        all_goals cases h
        rfl
      · cases h
  rw [only]
  rfl

theorem answerRead_ofAccess {s : State} {a : Word} {w : Width} {k : RegionKind} {e : Abort}
    (h : s.answerRead a w k = .error e) : e.ofAccess = true := by
  cases k <;> cases h <;> rfl

theorem answerWrite_ofAccess {s : State} {a : Word} {w : Width} {v : Word} {cached : Bool} {k : RegionKind} {e : Abort}
    (h : s.answerWrite a w v cached k = .error e) : e.ofAccess = true := by
  cases k <;> cases h <;> rfl

theorem busRead_ofAccess {s : State} {a : Word} {w : Width} {k : AccessKind} {e : Abort}
    (h : s.busRead a w k = .error e) : e.ofAccess = true := by
  unfold State.busRead at h
  split at h
  · split at h
    · rename_i x hx
      cases h
      exact tcipReg_ofAccess hx
    · cases h
    · split at h
      · cases h; rfl
      · exact answerRead_ofAccess h
  · split at h
    · rename_i x hx
      cases h
      exact isCached_ofAccess hx
    · unfold State.cacheRead at h
      split at h
      · cases h
      · exact answerRead_ofAccess h

theorem busWrite_ofAccess {s : State} {a : Word} {w : Width} {v : Word} {e : Abort}
    (h : s.busWrite a w v = .error e) : e.ofAccess = true := by
  unfold State.busWrite at h
  split at h
  · split at h
    · rename_i x hx
      cases h
      exact tcipReg_ofAccess hx
    · cases h
    · split at h
      · cases h; rfl
      · exact answerWrite_ofAccess h
  · split at h
    · rename_i x hx
      cases h
      exact isCached_ofAccess hx
    · exact answerWrite_ofAccess h

theorem readAligned_ofAccess {s : State} {a : Word} {w : Width} {sp : Bool} {e : Abort}
    (h : s.readAligned a w sp = .error e) : e.ofAccess = true := by
  unfold State.readAligned at h
  split at h
  · rename_i x hx
    cases h
    exact checkAccess_ofAccess hx
  · exact busRead_ofAccess h

theorem writeAligned_ofAccess {s : State} {a : Word} {w : Width} {sp : Bool} {v : Word} {e : Abort}
    (h : s.writeAligned a w sp v = .error e) : e.ofAccess = true := by
  unfold State.writeAligned at h
  split at h
  · rename_i x hx
    cases h
    exact checkAccess_ofAccess hx
  · exact busWrite_ofAccess h

theorem readData_ofAccess {s : State} {a : Word} {w : Width} {multi sp : Bool} {e : Abort}
    (h : s.readData a w multi sp = .error e) : e.ofAccess = true := by
  unfold State.readData at h
  split at h
  · exact readAligned_ofAccess h
  · split at h
    · cases h; rfl
    · split at h
      · simp only [State.readSplit] at h
        split at h
        · rename_i x hx
          cases h
          exact readAligned_ofAccess hx
        · split at h
          · cases h
          · split at h
            · rename_i x hx
              cases h
              exact readAligned_ofAccess hx
            · cases h
      · exact readAligned_ofAccess h

theorem writeOnce_ofAccess {s t : State} {a : Word} {w : Width} {sp : Bool} {v : Word} {e : Abort}
    (h : s.writeOnce a w sp v = (t, some e)) : e.ofAccess = true := by
  unfold State.writeOnce at h
  split at h
  · rename_i x hx
    cases h
    exact writeAligned_ofAccess hx
  · cases h

theorem writeSplit_ofAccess {a : Word} {n : Nat} {sp : Bool} {v : Word} {ps : List (Nat × Width)} {s t : State}
    {e : Abort} (h : s.writeSplit a n sp v ps = (t, some e)) : e.ofAccess = true := by
  induction ps generalizing s with
  | nil => cases h
  | cons p ps ih =>
    unfold State.writeSplit at h
    split at h
    · rename_i x hx
      cases h
      exact writeAligned_ofAccess hx
    · exact ih h

theorem writeData_ofAccess {s t : State} {a : Word} {w : Width} {multi sp : Bool} {v : Word} {e : Abort}
    (h : s.writeData a w multi sp v = (t, some e)) : e.ofAccess = true := by
  unfold State.writeData at h
  split at h
  · exact writeOnce_ofAccess h
  · split at h
    · cases h; rfl
    · split at h
      · exact writeSplit_ofAccess h
      · exact writeOnce_ofAccess h

theorem transfer_ofAccess {sp : Bool} {xs : List Xfer} {s : State} {l : List (Nat × Word)} {e : Abort}
    (h : (s.transfer sp l xs).stop = some e) : e.ofAccess = true := by
  induction xs generalizing s l with
  | nil => cases h
  | cons x xs ih =>
    cases x with
    | load n a =>
      unfold State.transfer at h
      split at h
      · rename_i x hx
        cases h
        exact readData_ofAccess hx
      · exact ih h
    | store v a =>
      unfold State.transfer at h
      split at h
      · rename_i x hx
        cases h
        exact writeData_ofAccess hx
      · exact ih h

end Sys2Proof.Machine
end

section
/-! SUPPORT. What execution keeps: the relations `Keeps`, `Ordinary` and `Works` between a state and a later one, and
that each shared update is in them. -/

namespace Sys2Proof.Machine

/-! ### The relations -/

/-- `t` has the configuration of `s`, and satisfies the invariant if `s` does. -/
structure Keeps (s t : State) : Prop where
  cfg : t.cfg = s.cfg
  inv : s.Inv → t.Inv

/-- What user mode cannot change: the supervisor's stack pointers, the control registers, and PSR but C and BM. -/
structure UserFrame (s t : State) : Prop where
  spvSp : t.spvSp = s.spvSp
  intSp : t.intSp = s.intSp
  control : SameControl s t
  saved : SameSaved s t
  psr : ∀ k, k ≠ 0 → k ≠ 2 → t.psr.getLsbD k = s.psr.getLsbD k

/-- An update that an instruction of either mode may make. -/
structure Ordinary (s t : State) : Prop extends Keeps s t where
  user : s.psrS = false → UserFrame s t

/-- An ordinary update during an instruction: the PC is still the instruction's. -/
structure Works (s t : State) : Prop extends Ordinary s t where
  pc : t.pc = s.pc

theorem keeps_refl (s : State) : Keeps s s := ⟨rfl, fun h => h⟩

theorem Keeps.trans {s t u : State} (h1 : Keeps s t) (h2 : Keeps t u) : Keeps s u :=
  ⟨h2.cfg.trans h1.cfg, fun h => h2.inv (h1.inv h)⟩

theorem sameControl_trans {s t u : State} (h1 : SameControl s t) (h2 : SameControl t u) : SameControl s u :=
  ⟨h2.cfg.trans h1.cfg, h2.vbr.trans h1.vbr, h2.gcr.trans h1.gcr, h2.gsr.trans h1.gsr, h2.chrIse.trans h1.chrIse,
    h2.chrIae.trans h1.chrIae, h2.ccrMp.trans h1.ccrMp, h2.capr.trans h1.capr, h2.pacr.trans h1.pacr,
    h2.prsr.trans h1.prsr, h2.sgcrSge.trans h1.sgcrSge, h2.sgcrSgp.trans h1.sgcrSgp, h2.sgtr.trans h1.sgtr,
    h2.sgbr.trans h1.sgbr, h2.sgistr.trans h1.sgistr, h2.sgisbr.trans h1.sgisbr, h2.cer.trans h1.cer,
    h2.cirWritten.trans h1.cirWritten, h2.crcr.trans h1.crcr, h2.secr.trans h1.secr, h2.dpPending.trans h1.dpPending,
    h2.hadFdb.trans h1.hadFdb, h2.hadMbee.trans h1.hadMbee, h2.irq.trans h1.irq, h2.run.trans h1.run,
    h2.answers.trans h1.answers, h2.resetRequest.trans h1.resetRequest, h2.onReset.trans h1.onReset,
    h2.moves.trans h1.moves, h2.free.trans h1.free⟩

theorem UserFrame.psrS {s t : State} (h : UserFrame s t) : t.psrS = s.psrS := h.psr 31 (by decide) (by decide)

theorem UserFrame.trans {s t u : State} (h1 : UserFrame s t) (h2 : UserFrame t u) : UserFrame s u where
  spvSp := h2.spvSp.trans h1.spvSp
  intSp := h2.intSp.trans h1.intSp
  control := sameControl_trans h1.control h2.control
  saved := ⟨h2.saved.1.trans h1.saved.1, h2.saved.2.trans h1.saved.2⟩
  psr k hC hBM := (h2.psr k hC hBM).trans (h1.psr k hC hBM)

theorem Ordinary.trans {s t u : State} (h1 : Ordinary s t) (h2 : Ordinary t u) : Ordinary s u where
  toKeeps := h1.toKeeps.trans h2.toKeeps
  user hs := (h1.user hs).trans (h2.user ((h1.user hs).psrS.trans hs))

theorem Works.trans {s t u : State} (h1 : Works s t) (h2 : Works t u) : Works s u :=
  ⟨h1.toOrdinary.trans h2.toOrdinary, h2.pc.trans h1.pc⟩

/-! ### The ordinary updates -/

theorem bank14_user {s : State} (hs : s.psrS = false) : s.bank14 = .user := by simp [State.bank14, hs]

theorem setReg_works (s : State) (n : Nat) (v : Word) : Works s (s.setReg n v) where
  cfg := rfl
  inv h := { h with }
  user hs := by
    obtain ⟨_, hspv, hint⟩ := setReg_otherBanks s n v
    simp only [bank14_user hs] at hspv hint
    exact ⟨hspv nofun, hint nofun, by constructor <;> rfl, ⟨rfl, rfl⟩, fun _ _ _ => rfl⟩
  pc := rfl

theorem advance_ordinary (s : State) {len : Nat} (hl : len % 2 = 0) : Ordinary s (s.advance len) where
  cfg := rfl
  inv h := { h with pc := (add_even s.pc len hl).trans h.pc }
  user _ := ⟨rfl, rfl, by constructor <;> rfl, ⟨rfl, rfl⟩, fun _ _ _ => rfl⟩

theorem jump_ordinary (s : State) (a : Word) : Ordinary s (s.jump a) where
  cfg := rfl
  inv h := { h with pc := evenAddr_even a }
  user _ := ⟨rfl, rfl, by constructor <;> rfl, ⟨rfl, rfl⟩, fun _ _ _ => rfl⟩

theorem setC_ordinary (s : State) (b : Bool) : Ordinary s (s.setC b) where
  cfg := rfl
  inv h := { h with psr := setBit_reserved s.psr _ 0 b (psrMask_implements s.cfg 0 (by decide)) h.psr }
  user _ := ⟨rfl, rfl, by constructor <;> rfl, ⟨rfl, rfl⟩, fun k hC _ => getLsbD_psrWithC s.psr b k (by omega)⟩

theorem setBM_ordinary (s : State) (b : Bool) (hb : s.cfg.bct = true) : Ordinary s (s.setBM b) where
  cfg := rfl
  inv h := { h with psr := setBit_reserved s.psr _ 2 b (psrMask_bm s.cfg hb) h.psr }
  user _ := by
    refine ⟨rfl, rfl, by constructor <;> rfl, ⟨rfl, rfl⟩, fun k _ hBM => ?_⟩
    by_cases hk : k < 32
    · exact (getLsbD_setBit s.psr 2 k b hk).trans (if_neg hBM)
    · rw [BitVec.getLsbD_of_ge _ k (by omega), BitVec.getLsbD_of_ge _ k (by omega)]

theorem stale_ordinary (s : State) (stale : List Stale) : Ordinary s { s with stale } where
  cfg := rfl
  inv h := { h with }
  user _ := ⟨rfl, rfl, by constructor <;> rfl, ⟨rfl, rfl⟩, fun _ _ _ => rfl⟩

/-- A write that keeps the invariant is an update that either mode may make. -/
theorem WriteFrame.works {s t : State} (h : WriteFrame s t) (hi : s.Inv → t.Inv) : Works s t := by
  obtain ⟨_, _, _, _, _, _, _, _, _, e⟩ := h.others
  refine ⟨⟨⟨by rw [e], hi⟩, fun hs => ?_⟩, by rw [e]⟩
  obtain ⟨_, _, _, _, _, rfl⟩ := h.user hs
  exact ⟨rfl, rfl, by constructor <;> rfl, ⟨rfl, rfl⟩, fun _ _ _ => rfl⟩

/-- Memory and the marks may change as they like, as long as memory stays canonical. -/
theorem inv_of_marks {s : State} {mem : Memory} {held old : List Span} {stale : List Stale}
    {between : List (List (Word × Byte))} (h : s.Inv) (hm : mem.wf = true) :
    State.Inv { s with mem, held, old, stale, between } :=
  { h with mem := hm }

/-- A tightly coupled register keeps its implemented bits (20_memory.md rules R110, R112, 60_exceptions.md rule
R464). -/
theorem writeTcip_inv {s : State} (g : TcipReg) (v : Word) (h : s.Inv) : (s.writeTcip g v).Inv := by
  cases g with
  | cer => exact { h with cer := and_mask_and_not v 3 }
  | cir =>
    obtain ⟨held, old, stale, e⟩ := writeCir_frame s v
    rw [State.writeTcip, e]
    exact { h with }
  | crcr i =>
    refine { h with crcr := fun j => ?_ }
    simp only [State.writeTcip, Fin.getElem_fin, Vector.getElem_setIfInBounds]
    split
    · exact and_mask_and_not v crcrMask
    · exact h.crcr j
  | secr => exact { h with secr := and_mask_and_not v (secrMask s.cfg) }
  | seuReserved => exact h

theorem answerWrite_inv {s t : State} {a : Word} {w : Width} {v : Word} {cached : Bool} {k : RegionKind}
    (ht : s.answerWrite a w v cached k = .ok t) (h : s.Inv) : t.Inv := by
  rcases answerWrite_frame s t a w v cached k ht with ⟨_, _, _, rfl⟩ | ⟨_, _, _, rfl⟩
  · exact inv_of_marks h h.mem
  · exact inv_of_marks h (store_wf _ _ _ _ _ h.mem)

theorem busWrite_inv {s t : State} {a : Word} {w : Width} {v : Word} (ht : s.busWrite a w v = .ok t) (h : s.Inv) :
    t.Inv := by
  unfold State.busWrite at ht
  split at ht
  · split at ht
    · cases ht
    · cases ht
      exact writeTcip_inv _ v h
    · split at ht
      · cases ht
      · exact answerWrite_inv ht h
  · split at ht
    · cases ht
    · exact answerWrite_inv ht h

theorem writeAligned_works {s t : State} {a : Word} {w : Width} {sp : Bool} {v : Word}
    (ht : s.writeAligned a w sp v = .ok t) : Works s t := by
  refine (writeAligned_writeFrame s t a w sp v ht).works (fun h => ?_)
  unfold State.writeAligned at ht
  split at ht
  · cases ht
  · exact busWrite_inv ht h

theorem works_refl (s : State) : Works s s := (writeFrame_refl s).works (fun h => h)

theorem writeOnce_works (s : State) (a : Word) (w : Width) (sp : Bool) (v : Word) :
    Works s (s.writeOnce a w sp v).1 := by
  unfold State.writeOnce
  split
  · exact works_refl s
  · rename_i t ht
    exact writeAligned_works ht

theorem writeSplit_works (a : Word) (n : Nat) (sp : Bool) (v : Word) (ps : List (Nat × Width)) (s : State) :
    Works s (s.writeSplit a n sp v ps).1 := by
  induction ps generalizing s with
  | nil => exact works_refl s
  | cons p ps ih =>
    unfold State.writeSplit
    split
    · exact works_refl s
    · rename_i t ht
      exact (writeAligned_works ht).trans (ih t)

theorem writeData_works (s : State) (a : Word) (w : Width) (multi sp : Bool) (v : Word) :
    Works s (s.writeData a w multi sp v).1 := by
  unfold State.writeData
  split
  · exact writeOnce_works s a w sp v
  · split
    · exact works_refl s
    · split
      · exact writeSplit_works _ _ _ _ _ _
      · exact writeOnce_works s _ w sp v

theorem afterRead_works (s : State) (a : Word) (w : Width) (multi sp : Bool) : Works s (s.afterRead a w multi sp) := by
  refine (afterRead_writeFrame s a w multi sp).works (fun h => ?_)
  obtain ⟨held, e⟩ := afterRead_frame s a w multi sp
  rw [e]
  exact inv_of_marks h h.mem

theorem externalWrites_inv (ws : List (Word × Byte)) {s : State} (h : s.Inv) : (s.externalWrites ws).Inv := by
  obtain ⟨old, e⟩ := externalWrites_frame ws s
  rw [e]
  exact inv_of_marks h (foldl_setByte_wf ws s.mem h.mem)

theorem landWrites_works (s : State) : Works s s.landWrites := by
  refine (landWrites_writeFrame s).works (fun h => ?_)
  unfold State.landWrites
  split
  · exact h
  · exact externalWrites_inv _ (inv_of_marks h h.mem)

theorem transfer_works (sp : Bool) (xs : List Xfer) (s : State) (l : List (Nat × Word)) :
    Works s (s.transfer sp l xs).state := by
  induction xs generalizing s l with
  | nil => exact works_refl s
  | cons x xs ih =>
    cases x with
    | load n a =>
      unfold State.transfer
      split
      · exact works_refl s
      · exact (afterRead_works s a .word true sp).trans ((landWrites_works _).trans (ih _ _))
    | store v a =>
      have hw := writeData_works s a .word true sp v
      unfold State.transfer
      split
      · rename_i t e he
        rwa [he] at hw
      · rename_i t he
        rw [he] at hw
        exact hw.trans ((landWrites_works t).trans (ih _ l))

theorem setRegs_works (ps : List (Nat × Word)) (s : State) : Works s (s.setRegs ps) := by
  induction ps generalizing s with
  | nil => exact works_refl s
  | cons p ps ih => exact (setReg_works s p.1 p.2).trans (ih _)

theorem drawLoaded_works (ps : List (Nat × Word)) (s : State) : Works s (s.drawLoaded ps) := by
  induction ps generalizing s with
  | nil => exact works_refl s
  | cons p ps ih => exact (setReg_works s p.1 _).trans (ih _)

/-- What a multi-access instruction leaves where a transfer is not performed. -/
theorem partialState_works (s : State) (sp : Bool) (xs : List Xfer) : Works s (s.transfer sp [] xs).partialState :=
  (transfer_works sp xs s []).trans (drawLoaded_works _ _)

end Sys2Proof.Machine
end

section
/-! SUPPORT. Once, everything that executing an instruction can lead to (`exec_effect`). -/

namespace Sys2Proof.Machine

/-! ### Exceptions, resets and control registers keep the invariant -/

theorem enter_keeps (s : State) (vec : BitVec 8) (ret : Word) : Keeps s (s.enter vec ret) :=
  ⟨rfl, fun h => { h with psr := psrEnter_reserved s.psr s.cfg vec h.psr, epsr := h.psr }⟩

theorem jump_keeps (s : State) (a : Word) : Keeps s (s.jump a) := (jump_ordinary s a).toKeeps

theorem afterVector_keeps (s : State) (vec : BitVec 8) : Keeps s (s.afterVector vec) := by
  obtain ⟨held, e⟩ := afterTransfer_frame s (s.vectorAddr vec) .word .fetch false
  rw [State.afterVector, e]
  exact ⟨rfl, fun h => inv_of_marks h h.mem⟩

theorem takeVector_keeps {s t : State} {vec : BitVec 8} {ret : Word} (h : s.takeVector vec ret = .next t) :
    Keeps s t := by
  rcases takeVector_next s t vec ret h with ⟨w, _, rfl⟩ | ⟨w, _, rfl⟩
  · exact (enter_keeps s vec ret).trans ((afterVector_keeps _ vec).trans (jump_keeps _ w))
  · exact (enter_keeps s vec ret).trans ((enter_keeps _ 8 ret).trans ((afterVector_keeps _ 8).trans (jump_keeps _ w)))

theorem returnFromException_keeps (s : State) : Keeps s s.returnFromException :=
  ⟨rfl, fun h => { h with psr := and_mask_and_not s.epsr _, pc := evenAddr_even s.epc }⟩

/-- PSR is 0x80000000 after a reset: S alone, which every configuration implements. -/
theorem resetPsr_reserved (c : Config) : 0x80000000#32 &&& ~~~(psrMask c) = 0 := by
  unfold psrMask
  split <;> decide

theorem resetRegisters_keeps (s : State) : Keeps s s.resetRegisters where
  cfg := rfl
  inv h :=
    { mem := h.mem
      pc := h.pc
      psr := resetPsr_reserved s.cfg
      epsr := and_mask_and_not _ _
      vbr := BitVec.zero_and
      gcr := and_mask_and_not _ _
      capr := BitVec.zero_and
      pacr := fun i => by
        simp only [State.resetRegisters, Fin.getElem_fin, Vector.getElem_ofFn]
        rw [show (pacrMask &&& ~~~1#32) = ~~~1#32 &&& pacrMask from BitVec.and_comm _ _, ← BitVec.and_assoc]
        exact and_mask_and_not _ _
      chrIse := fun _ => rfl
      cer := BitVec.zero_and
      crcr := fun i => by
        simp only [State.resetRegisters, Fin.getElem_fin, Vector.getElem_replicate]
        exact BitVec.zero_and
      secr := and_mask_and_not _ _ }

theorem systemReset_keeps (s : State) : Keeps s s.systemReset := by
  obtain ⟨old, e⟩ := systemReset_frame s
  rw [e]
  exact ⟨rfl, fun h => { h with mem := foldl_setByte_wf _ _ h.mem }⟩

theorem takeReset_keeps {s t : State} (h : s.takeReset = .next t) : Keeps s t := by
  obtain ⟨w, _, rfl⟩ := takeReset_next h
  exact (systemReset_keeps s).trans ((resetRegisters_keeps _).trans (jump_keeps _ w))

theorem softReset_keeps {s t : State} (h : s.softReset = .next t) : Keeps s t := by
  have hr : Keeps s { s with resetRequest := true } := ⟨rfl, fun h => { h with }⟩
  exact hr.trans (takeReset_keeps h)

/-- A configured register is the only one that a write reaches. -/
theorem ifConfigured_some {α : Type} {b : Bool} {v w : α} (h : ifConfigured b v = some w) : b = true ∧ v = w := by
  unfold ifConfigured at h
  split at h
  · exact ⟨by assumption, by simpa using h⟩
  · cases h

/-- A control register keeps its implemented bits (10_state.md rule R31). -/
theorem writeCr_keeps {s t : State} {n sel : Nat} {v : Word} (h : s.writeCr n sel v = some t) : Keeps s t := by
  unfold State.writeCr at h
  split at h
  case h_1 => cases h; exact ⟨rfl, fun h => { h with psr := and_mask_and_not v _ }⟩
  case h_2 =>
    obtain ⟨_, rfl⟩ := ifConfigured_some h
    exact ⟨rfl, fun h => { h with vbr := and_mask_and_not v _ }⟩
  case h_3 => cases h; exact ⟨rfl, fun h => { h with epsr := and_mask_and_not v _ }⟩
  case h_5 =>
    obtain ⟨_, rfl⟩ := ifConfigured_some h
    exact ⟨rfl, fun h => { h with gcr := and_mask_and_not v _ }⟩
  case h_9 =>
    obtain ⟨_, rfl⟩ := ifConfigured_some h
    exact ⟨rfl, fun h => { h with capr := and_mask_and_not v _ }⟩
  case h_10 =>
    obtain ⟨_, rfl⟩ := ifConfigured_some h
    refine ⟨rfl, fun h => { h with pacr := fun i => ?_ }⟩
    simp only [Fin.getElem_fin, Vector.getElem_setIfInBounds]
    split
    · exact and_mask_and_not v pacrMask
    · exact h.pacr i
  case h_12 =>
    cases h
    exact ⟨rfl, fun h => { h with chrIse := fun hc => Bool.and_eq_false_iff.mpr (.inl hc) }⟩
  case h_20 => cases h
  case h_4 | h_7 | h_8 | h_13 => cases h; exact ⟨rfl, fun h => { h with }⟩
  all_goals
    obtain ⟨_, rfl⟩ := ifConfigured_some h
    exact ⟨rfl, fun h => { h with }⟩

/-! ### What an instruction can do -/

/-- The synchronous exceptions of an instruction (60_exceptions.md rule R410). -/
def raisedBy (i : Instr) : Cause → Bool
  | .trap n => i == .trap32 n
  | .addressWatch | .interrupt _ => false
  | _ => true

/-- Everything that executing an instruction can lead to: an update that either mode may make, an exception, an update
that needs supervisor mode, or debug mode. -/
inductive Effect (i : Instr) (s t : State) : Prop
  | completes (h : Ordinary s t)
  | traps (c : Cause) (u : State) (hc : raisedBy i c = true) (hu : Works s u) (ht : u.raise c = .next t)
  | supervisor (hs : s.psrS = true) (h : Keeps s t)
  | breaks (hf : s.hadFdb = true) (h : t = { s with run := .debug })

variable {i : Instr} {s t u : State} {len rz rx ry : Nat}

theorem raise_effect {c : Cause} (hc : raisedBy i c = true) (h : s.raise c = .next t) : Effect i s t :=
  .traps c s hc (works_refl s) h

/-- An access that is not performed ends in the exception it raises. -/
theorem abort_effect {e : Abort} (he : e.ofAccess = true) (hu : Works s u) (h : u.abort e = .next t) :
    Effect i s t := by
  obtain ⟨c, rfl, hr⟩ := abort_next u t e h
  refine .traps c u ?_ hu hr
  cases c with
  | misaligned | accessError => rfl
  | _ => cases he

theorem withRegs_effect {regs : List Nat} {k : Result} (h : s.withRegs regs k = .next t)
    (hk : k = .next t → Effect i s t) : Effect i s t :=
  hk ((withRegs_next s t regs k).mp h).2

theorem requires_effect {option : Bool} {k : Result} (h : s.requires option k = .next t)
    (hk : option = true → k = .next t → Effect i s t) : Effect i s t := by
  cases option with
  | true => exact hk rfl h
  | false => exact raise_effect rfl h

theorem privileged_effect {k : Result} (h : s.privileged k = .next t)
    (hk : s.psrS = true → k = .next t → Effect i s t) : Effect i s t := by
  cases hs : s.psrS with
  | true => exact hk hs ((privileged_supervisor s k hs).symm.trans h)
  | false => exact raise_effect rfl ((privileged_user s k hs).symm.trans h)

theorem advance_effect (hl : len % 2 = 0) (hu : Works s u)
    (h : Host.Outcome.next (u.advance len) = (.next t : Result)) : Effect i s t := by
  cases h
  exact .completes (hu.toOrdinary.trans (advance_ordinary u hl))

theorem jump_effect {a : Word} (hu : Works s u) (h : Host.Outcome.next (u.jump a) = (.next t : Result)) :
    Effect i s t := by
  cases h
  exact .completes (hu.toOrdinary.trans (jump_ordinary u a))

theorem result_effect {v : Word} (hl : len % 2 = 0) (hu : Works s u) (h : u.result len rz v = .next t) : Effect i s t :=
  advance_effect hl (hu.trans (setReg_works u rz v)) h

theorem resultC_effect {v : Word} {c : Bool} (hl : len % 2 = 0) (h : s.resultC len rz v c = .next t) :
    Effect i s t := by
  cases h
  exact .completes ((setReg_works s rz v).toOrdinary.trans ((setC_ordinary _ c).trans (advance_ordinary _ hl)))

theorem condition_effect {c : Bool} (hl : len % 2 = 0) (h : s.condition len c = .next t) : Effect i s t := by
  cases h
  exact .completes ((setC_ordinary s c).trans (advance_ordinary _ hl))

theorem binary_effect {f : Word → Word → Word} (hl : len % 2 = 0) (h : s.binary len rz rx ry f = .next t) :
    Effect i s t := withRegs_effect h (result_effect hl (works_refl s))

theorem unary_effect {f : Word → Word} (hl : len % 2 = 0) (h : s.unary len rz rx f = .next t) : Effect i s t :=
  withRegs_effect h (result_effect hl (works_refl s))

theorem binaryC_effect {f : Word → Word → Bool → Word × Bool} (hl : len % 2 = 0)
    (h : s.binaryC len rz rx ry f = .next t) : Effect i s t := withRegs_effect h (resultC_effect hl)

theorem unaryC_effect {f : Word → Bool → Word × Bool} (hl : len % 2 = 0) (h : s.unaryC len rz rx f = .next t) :
    Effect i s t := withRegs_effect h (resultC_effect hl)

theorem compare_effect {p : Word → Word → Bool} (hl : len % 2 = 0) (h : s.compare len rx ry p = .next t) :
    Effect i s t := withRegs_effect h (condition_effect hl)

theorem test_effect {p : Word → Bool} (hl : len % 2 = 0) (h : s.test len rx p = .next t) : Effect i s t :=
  withRegs_effect h (condition_effect hl)

theorem conditional_effect {b : Bool} {f : Word → Word} (hl : len % 2 = 0)
    (h : s.conditional len rz rx b f = .next t) : Effect i s t := by
  refine withRegs_effect h (fun h => ?_)
  split at h
  · exact result_effect hl (works_refl s) h
  · exact advance_effect hl (works_refl s) h

theorem branchIf_effect {b : Bool} {a : Word} (hl : len % 2 = 0) (h : s.branchIf b len a = .next t) : Effect i s t := by
  unfold State.branchIf at h
  split at h
  · exact jump_effect (works_refl s) h
  · exact advance_effect hl (works_refl s) h

theorem call_effect {a : Word} (h : s.call len a = .next t) : Effect i s t := jump_effect (setReg_works s 15 _) h

theorem load_effect {a : Word} {w : Width} {sp : Bool} {ext : Word → Word} (hl : len % 2 = 0)
    (h : s.load len rz a w sp ext = .next t) : Effect i s t := by
  simp only [State.load] at h
  split at h
  · exact result_effect hl (afterRead_works s a w false sp) h
  · rename_i e he
    exact abort_effect (readData_ofAccess he) (afterRead_works s a w false sp) h

theorem store_effect {a : Word} {w : Width} {sp : Bool} {v : Word} (hl : len % 2 = 0)
    (h : s.store len a w sp v = .next t) : Effect i s t := by
  have hw := writeData_works s a w false sp v
  unfold State.store at h
  split at h
  · rename_i u e
    rw [e] at hw
    exact advance_effect hl hw h
  · rename_i u x e
    rw [e] at hw
    exact abort_effect (writeData_ofAccess e) hw h

theorem multi_effect {sp : Bool} {xs : List Xfer} {k : State → Result} (h : s.multi sp xs k = .next t)
    (hk : ∀ u, Works s u → k u = .next t → Effect i s t) : Effect i s t := by
  rcases multi_next s t sp xs k h with ⟨_, hu⟩ | ⟨e, he, hu⟩
  · exact hk _ ((transfer_works sp xs s []).trans (setRegs_works _ _)) hu
  · exact abort_effect (transfer_ofAccess he) (partialState_works s sp xs) hu

theorem loadRange_effect {n : Nat} (h : s.loadRange ry rx n = .next t) : Effect i s t := by
  refine withRegs_effect h (fun h => ?_)
  split at h
  · cases h
  · exact multi_effect h (fun _ hu => advance_effect (by decide) hu)

theorem storeRange_effect {n : Nat} (h : s.storeRange ry rx n = .next t) : Effect i s t :=
  withRegs_effect h (multi_effect · (fun _ hu => advance_effect (by decide) hu))

theorem pushRegs_effect {regs : List Nat} (h : s.pushRegs regs = .next t) : Effect i s t :=
  multi_effect h (fun u hu => advance_effect (by decide) (hu.trans (setReg_works u 14 _)))

theorem bctOverflow_effect (h : s.bctOverflow = .next t) : Effect i s t := jump_effect (setReg_works s 15 _) h

theorem bctPush_effect {w : Width} (h : s.bctPush rz w = .next t) : Effect i s t := by
  refine requires_effect h (fun _ h => withRegs_effect h (fun h => ?_))
  have hw := writeData_works s s.bsp w false false (s.reg rz)
  split at h
  · cases h
  · split at h
    · exact bctOverflow_effect h
    · split at h
      · rename_i u e
        rw [e] at hw
        exact advance_effect (by decide) (hw.trans (setReg_works u 25 _)) h
      · rename_i u x e
        rw [e] at hw
        exact abort_effect (writeData_ofAccess e) hw h

theorem bctPop_effect {w : Width} (h : s.bctPop rz w = .next t) : Effect i s t := by
  refine requires_effect h (fun _ h => withRegs_effect h (fun h => ?_))
  have hr := afterRead_works s (s.bsp - BitVec.ofNat 32 w.bytes) w false false
  split at h
  · cases h
  · split at h
    · exact bctOverflow_effect h
    · simp only at h
      split at h
      · exact advance_effect (by decide) (hr.trans ((setReg_works _ 25 _).trans (setReg_works _ rz _))) h
      · rename_i x e
        exact abort_effect (readData_ofAccess e) hr h

/-- A written PSR with no bit outside its mask keeps the invariant. -/
theorem Works.withPsr_keeps {p : Word} (hu : Works s u) (hp : s.Inv → p &&& ~~~(psrMask s.cfg) = 0) :
    Keeps s { u with psr := p } :=
  ⟨hu.cfg, fun h => { hu.inv h with psr := (congrArg (fun c => p &&& ~~~(psrMask c)) hu.cfg).trans (hp h) }⟩

/-- Saved registers written with implemented bits keep the invariant. -/
theorem Works.withSaved_keeps (hu : Works s u) (w0 w1 : Word) :
    Keeps s { u with epsr := w0 &&& psrMask s.cfg, epc := w1 } :=
  ⟨hu.cfg, fun h => { hu.inv h with
    epsr := (congrArg (fun c => (w0 &&& psrMask s.cfg) &&& ~~~(psrMask c)) hu.cfg).trans (and_mask_and_not w0 _) }⟩

theorem nie16_effect (h : execNie16 s = .next t) : Effect i s t := by
  refine requires_effect h (fun _ h => privileged_effect h (fun hs h => multi_effect h (fun u hu h => ?_)))
  cases h
  have hp : s.Inv → setBit (setBit s.psr 8 true) 6 true &&& ~~~(psrMask s.cfg) = 0 := fun h =>
    setBit_reserved _ _ 6 true (psrMask_implements s.cfg 6 (by decide))
      (setBit_reserved _ _ 8 true (psrMask_implements s.cfg 8 (by decide)) h.psr)
  exact .supervisor hs (((hu.trans (setReg_works u 14 _)).withPsr_keeps hp).trans
    (advance_ordinary _ (len := 2) (by decide)).toKeeps)

theorem nir16_effect (h : execNir16 s = .next t) : Effect i s t := by
  refine requires_effect h (fun _ h => privileged_effect h (fun hs h => ?_))
  split at h
  · rename_i e he
    exact abort_effect (readData_ofAccess he) (works_refl s) h
  · have h0 := (afterRead_works s s.sp .word true true).trans (landWrites_works _)
    simp only at h
    split at h
    · rename_i e he
      exact abort_effect (readData_ofAccess he) h0 h
    · rename_i w0 _ _ w1 _
      have h1 := (h0.trans (afterRead_works _ (s.sp + 4) .word true true)).trans (setReg_works _ 14 (s.sp + 8))
      cases h
      exact .supervisor hs ((h1.withSaved_keeps w0 w1).trans (returnFromException_keeps _))

theorem mfcr32_effect {n sel : Nat} (h : execMfcr32 rz n sel s = .next t) : Effect i s t := by
  refine privileged_effect h (fun _ h => withRegs_effect h (fun h => ?_))
  split at h
  · exact result_effect (by decide) (works_refl s) h
  · cases h

theorem mtcr32_effect {n sel : Nat} (h : execMtcr32 rx n sel s = .next t) : Effect i s t := by
  refine privileged_effect h (fun hs h => withRegs_effect h (fun h => ?_))
  split at h
  · split at h
    · exact .supervisor hs (softReset_keeps h)
    · exact raise_effect rfl h
  · split at h
    · rename_i u hu
      cases h
      exact .supervisor hs ((writeCr_keeps hu).trans (advance_ordinary u (by decide)).toKeeps)
    · cases h

theorem lowPower_effect {m : RunState} (h : s.privileged (s.lowPower m) = .next t) : Effect i s t := by
  refine privileged_effect h (fun hs h => ?_)
  cases h
  exact .supervisor hs ((advance_ordinary s (len := 4) (by decide)).toKeeps.trans ⟨rfl, fun h => { h with }⟩)

theorem setBM_effect {b : Bool} (h : s.requires s.cfg.bct (.next ((s.setBM b).advance 4)) = .next t) :
    Effect i s t := by
  refine requires_effect h (fun hb h => ?_)
  cases h
  exact .completes ((setBM_ordinary s b hb).trans (advance_ordinary _ (by decide)))

/-- What executing any instruction can lead to. -/
theorem exec_effect (h : exec i s = .next t) : Effect i s t := by
  unfold exec at h
  cases i
  case addu16 | addu16r | addu32 | subu16 | subu16r | subu32 | rsub32 | ixh32 | ixw32 | and16 | and32 | andn16 | andn32
      | or16 | or32 | xor16 | xor32 | nor16 | nor32 | lsl16 | lsl32 | lsr16 | lsr32 | asr16 | asr32 | rotl16 | rotl32
      | mult16 | mult32 =>
    exact binary_effect (by decide) h
  case addc16 | addc32 | subc16 | subc32 => exact binaryC_effect (by decide) h
  case addi16 | addi16r | addi32 | addi16sp | addi16spsp | subi16 | subi16r | subi32 | subi16spsp | andi32 | andni32
      | ori32 | xori32 | not16 | not32 | lsli16 | lsli32 | lsri16 | lsri32 | asri16 | asri32 | rotli32 | mov16 | mov32
      | bclri16 | bclri32 | bseti16 | bseti32 | ff0 | ff1 | zextb16 | zexth16 | sextb16 | sexth16 | revb16 | revh16 =>
    exact unary_effect (by decide) h
  case incf32 | inct32 | decf32 | dect32 | movf32 | movt32 => exact conditional_effect (by decide) h
  case lslc32 | lsrc32 | asrc32 | xsr32 | xtrb0 | xtrb1 | xtrb2 | xtrb3 => exact unaryC_effect (by decide) h
  case cmphs16 | cmplt16 | cmpne16 | tst16 => exact compare_effect (by decide) h
  case cmphsi16 | cmphsi32 | cmplti16 | cmplti32 | cmpnei16 | cmpnei32 | tstnbz16 | btsti16 | btsti32 =>
    exact test_effect (by decide) h
  case movi16 | movi32 | movih32 | mvc32 | mvcv16 | grs32 | bgeni32 =>
    exact withRegs_effect h (result_effect (by decide) (works_refl s))
  case bmaski32 =>
    refine withRegs_effect h (fun h => ?_)
    split at h
    · cases h
    · exact result_effect (by decide) (works_refl s) h
  case lrw16 | lrw32 | ld16b | ld32b | ld32bs | ld16h | ld32h | ld32hs | ld16w | ld16wsp | ld32w =>
    exact withRegs_effect h (load_effect (by decide))
  case st16b | st32b | st16h | st32h | st16w | st16wsp | st32w => exact withRegs_effect h (store_effect (by decide))
  case br16 | br32 | rts16 => exact jump_effect (works_refl s) h
  case bt16 | bt32 | bf16 | bf32 => exact branchIf_effect (by decide) h
  case jmp16 => exact withRegs_effect h (jump_effect (works_refl s))
  case jmpix16 => exact requires_effect h (fun _ h => withRegs_effect h (jump_effect (works_refl s)))
  case jsr16 => exact withRegs_effect h call_effect
  case bsr32 => exact call_effect h
  case ldm32 | ldq32 => exact loadRange_effect h
  case stm32 | stq32 => exact storeRange_effect h
  case push16 => exact withRegs_effect h pushRegs_effect
  case pop16 =>
    exact withRegs_effect h (multi_effect · (fun u hu => jump_effect (hu.trans (setReg_works u 14 _))))
  case ipush16 => exact requires_effect h (fun _ => pushRegs_effect)
  case ipop16 =>
    exact requires_effect h (fun _ h =>
      multi_effect h (fun u hu => advance_effect (by decide) (hu.trans (setReg_works u 14 _))))
  case nie16 => exact nie16_effect h
  case nir16 => exact nir16_effect h
  case bpush16h | bpush16w => exact bctPush_effect h
  case bpop16h | bpop16w => exact bctPop_effect h
  case mfcr32 => exact mfcr32_effect h
  case mtcr32 => exact mtcr32_effect h
  case rte32 =>
    refine privileged_effect h (fun hs h => ?_)
    cases h
    exact .supervisor hs (returnFromException_keeps s)
  case stop32 | doze32 | wait32 => exact lowPower_effect h
  case sync32 =>
    cases h
    exact .completes ((advance_ordinary s (len := 4) (by decide)).trans (stale_ordinary _ _))
  case trap32 => exact raise_effect (by simp [raisedBy]) h
  case bmset32 | bmclr32 => exact setBM_effect h
  case bkpt16 =>
    change (if s.hadFdb then _ else _) = _ at h
    split at h
    · rename_i hf
      cases h
      exact .breaks hf rfl
    · exact raise_effect rfl h

end Sys2Proof.Machine
end

section
/-! SUPPORT. The invariant of every step and the confinement of user mode, from `exec_effect`. -/

namespace Sys2Proof.Machine

/-! ### Every step keeps the invariant -/

theorem Effect.keeps {i : Instr} {s t : State} (h : Effect i s t) : Keeps s t := by
  cases h with
  | completes h => exact h.toKeeps
  | traps c u _ hu ht => exact hu.toKeeps.trans (takeVector_keeps ht)
  | supervisor _ h => exact h
  | breaks _ h => exact h ▸ ⟨rfl, fun h => { h with }⟩

theorem abort_keeps {s t : State} {e : Abort} (h : s.abort e = .next t) : Keeps s t := by
  obtain ⟨c, _, ht⟩ := abort_next s t e h
  exact takeVector_keeps ht

theorem afterFetch_keeps (s : State) : Keeps s s.afterFetch := by
  obtain ⟨held, e, _⟩ := afterFetch_frame s
  rw [e]
  exact ⟨rfl, fun h => inv_of_marks h h.mem⟩

theorem runInstr_keeps {s t : State} (h : s.runInstr = .next t) : Keeps s t := by
  have hf := afterFetch_keeps s
  unfold State.runInstr at h
  split at h
  · exact hf.trans (abort_keeps h)
  · exact hf.trans (takeVector_keeps h)
  · exact hf.trans (exec_effect h).keeps

theorem takeInterrupt_keeps {s t : State} {v : BitVec 8} (h : s.takeInterrupt v = .next t) : Keeps s t := by
  unfold State.takeInterrupt at h
  split at h
  · exact runInstr_keeps h
  · exact takeVector_keeps h

theorem cutInstr_keeps {s t : State} {v : BitVec 8} {k : Nat} (h : s.cutInstr v k = .next t) : Keeps s t := by
  unfold State.cutInstr at h
  split at h
  · split at h
    · rename_i sp xs _
      split at h
      · have hp := (afterFetch_keeps s).trans (partialState_works s.afterFetch sp (xs.take k)).toKeeps
        simp only at h
        split at h
        · exact hp.trans (abort_keeps h)
        · exact hp.trans (takeVector_keeps h)
      · exact takeInterrupt_keeps h
    · exact takeInterrupt_keeps h
  · exact takeInterrupt_keeps h

theorem firstTransfers_keeps (s : State) (i : Instr) (k : Nat) : Keeps s (s.firstTransfers i k) := by
  unfold State.firstTransfers
  split
  · exact (transfer_works _ _ s []).toKeeps
  · split
    · split
      · exact (writeSplit_works _ _ _ _ _ s).toKeeps
      · exact keeps_refl s
    · exact keeps_refl s

theorem abandonInstr_keeps (s : State) (k : Nat) : Keeps s (s.abandonInstr k) := by
  unfold State.abandonInstr
  split
  · split
    · exact firstTransfers_keeps s _ k
    · exact keeps_refl s
  · exact keeps_refl s

theorem boundary_keeps {s t : State} {cut : Option Nat} (h : s.boundary cut = .next t) : Keeps s t := by
  unfold State.boundary at h
  split at h
  · have hd : Keeps s { s with dpPending := false } := ⟨rfl, fun h => { h with }⟩
    exact hd.trans (takeVector_keeps h)
  · split at h
    · exact runInstr_keeps h
    · exact takeInterrupt_keeps h
    · exact cutInstr_keeps h

/-- The run state is no part of the invariant. -/
theorem withRun_keeps (s : State) (run : RunState) : Keeps s { s with run } := ⟨rfl, fun h => { h with }⟩

theorem coreStep_keeps {s t : State} {cut : Option Nat} (h : s.coreStep cut = .next t) : Keeps s t := by
  have wake : (if s.irq.isSome then { s with run := .normal }.boundary none else .next s) = .next t → Keeps s t := by
    intro h
    split at h
    · exact (withRun_keeps s .normal).trans (boundary_keeps h)
    · cases h
      exact keeps_refl s
  unfold State.coreStep at h
  split at h
  case h_1 => exact boundary_keeps h
  case h_2 | h_3 | h_4 => exact wake h
  case h_5 | h_6 => cases h; exact keeps_refl s

theorem externalWrite_keeps (s : State) (a : Word) (b : Byte) : Keeps s (s.externalWrite a b) := by
  obtain ⟨old, e⟩ := externalWrite_frame s a b
  rw [e]
  exact ⟨rfl, fun h => inv_of_marks h (setByte_wf _ _ _ h.mem)⟩

theorem setAnswers_keeps (s : State) (gs : List Region) : Keeps s (s.setAnswers gs) := by
  obtain ⟨old, e⟩ := setAnswers_frame s gs
  rw [e]
  exact ⟨rfl, fun h => { h with }⟩

theorem addressWatch_keeps {s t : State} (h : s.addressWatch = .next t) : Keeps s t := by
  unfold State.addressWatch at h
  split at h
  · cases h
    exact keeps_refl s
  · split at h
    · cases h
      exact withRun_keeps s .debug
    · split at h
      · exact takeVector_keeps h
      · cases h
        exact ⟨rfl, fun h => { h with }⟩

theorem debugWriteCr_keeps {s t : State} {n sel : Nat} {v : Word} (h : s.debugWriteCr n sel v = .next t) :
    Keeps s t := by
  unfold State.debugWriteCr at h
  split at h
  · split at h
    · rename_i u hu
      cases h
      exact (softReset_keeps hu).trans (withRun_keeps u .debug)
    · exact softReset_keeps h
  · split at h
    · rename_i u hu
      cases h
      exact writeCr_keeps hu
    · cases h

theorem writeTcip_keeps (s : State) (g : TcipReg) (v : Word) : Keeps s (s.writeTcip g v) := by
  obtain ⟨_, _, _, _, _, _, _, e⟩ := writeTcip_frame s g v
  exact ⟨by rw [e], writeTcip_inv g v⟩

theorem debugWriteTcip_keeps {s t : State} {a v : Word} (h : s.debugWriteTcip a v = .next t) : Keeps s t := by
  unfold State.debugWriteTcip at h
  split at h
  · split at h
    · cases h
      exact writeTcip_keeps s _ v
    · cases h
  · cases h

/-- What the debugger does happens in debug mode only. -/
theorem inDebug_next {s t : State} {k : Result} (h : s.inDebug k = .next t) : k = .next t := by
  unfold State.inDebug at h
  split at h
  · exact h
  · cases h

theorem applyMove_keeps {s t : State} {m : Move} (h : s.applyMove m = .next t) : Keeps s t := by
  cases m
  case run | cut => exact coreStep_keeps h
  case reset => exact takeReset_keeps h
  case resetIn k => exact (abandonInstr_keeps s k).trans (takeReset_keeps h)
  case irq v =>
    simp only [State.applyMove] at h
    split at h <;> cases h
    exact ⟨rfl, fun h => { h with }⟩
  case irqOff | gsr | hadFdb | hadMbee | between | onReset => cases h; exact ⟨rfl, fun h => { h with }⟩
  case wake =>
    cases h
    split
    · exact withRun_keeps s .normal
    · exact keeps_refl s
  case debugRequest =>
    cases h
    split
    · exact keeps_refl s
    · exact withRun_keeps s .debug
  case debugResume => cases inDebug_next h; exact withRun_keeps s .normal
  case debugReg n v =>
    have h := inDebug_next h
    split at h <;> cases h
    exact (setReg_works s n v).toKeeps
  case debugCr => exact debugWriteCr_keeps (inDebug_next h)
  case debugPc v => cases inDebug_next h; exact ⟨rfl, fun h => { h with pc := evenAddr_even v }⟩
  case debugMem a b => cases inDebug_next h; exact externalWrite_keeps s a b
  case debugTcip => exact debugWriteTcip_keeps (inDebug_next h)
  case debugDp => cases inDebug_next h; exact ⟨rfl, fun h => { h with }⟩
  case watch => exact addressWatch_keeps h
  case memWrite a b => cases h; exact externalWrite_keeps s a b
  case answers gs => cases h; exact setAnswers_keeps s gs
  case gprReset =>
    simp only [State.applyMove] at h
    split at h <;> cases h
    exact ⟨rfl, fun h => { h with }⟩
  case violation =>
    simp only [State.applyMove] at h
    split at h <;> cases h
    split
    · exact keeps_refl s
    · exact withRun_keeps s .violation

theorem step_keeps {s t : State} (h : step s = .next t) : Keeps s t := by
  have htick : Keeps s s.tick := ⟨rfl, fun h => { h with }⟩
  unfold step State.stepBody at h
  split at h
  · exact htick.trans (coreStep_keeps h)
  · rename_i m ms _
    have hmoves : Keeps s.tick { s.tick with moves := ms } := ⟨rfl, fun h => { h with }⟩
    exact htick.trans (hmoves.trans (applyMove_keeps h))

/-- Settles O59: each part of a step keeps the invariant and the configuration, the instruction by `exec_effect`. -/
theorem stepKeepsInvariant : Obligations.step_keeps_invariant :=
  fun _ _ hs h => ⟨(step_keeps h).inv hs, (step_keeps h).cfg⟩

/-- Settles O58: every field of the reset state is a constant. -/
theorem resetSatisfiesInvariant : Obligations.reset_satisfies_invariant := by
  constructor <;> decide

/-- Settles O51: every field of the reset state is a constant. -/
theorem resetValues : Obligations.reset_values := by
  unfold Obligations.reset_values
  decide

/-! ### User mode is confined -/

/-- The vectors of an instruction's exceptions are below 20: vector 8 with PSR.EE = 0, and the traps are 16 to 19. -/
theorem vectorFor_lt {i : Instr} {c : Cause} (u : State) (hi : i.wf = true) (hc : raisedBy i c = true) :
    (u.vectorFor c).toNat < 20 := by
  have trap : ∀ n < 4, (BitVec.ofNat 8 (16 + n)).toNat < 20 := by decide
  unfold State.vectorFor
  split
  · decide
  · cases c with
    | trap n =>
      have hn : i = .trap32 n := by simpa [raisedBy] using hc
      subst hn
      exact trap n (by simpa [Instr.wf] using hi)
    | addressWatch => cases hc
    | interrupt v => cases hc
    | _ => decide

/-- The handler's PSR: supervisor mode, exceptions and interrupts disabled, VEC the vector. -/
theorem psrEnter_handler (s : State) (p : Word) (vec : BitVec 8) (h : s.psr = psrEnter p vec) :
    s.psrS = true ∧ s.psrEE = false ∧ s.psrIE = false ∧ s.psrVec = vec := by
  simp only [State.psrS, State.psrEE, State.psrIE, State.psrVec, h, psrEnter_vec, psrEnter_bits]
  norm_num

/-- After an exception the handler runs, with VEC the vector or 8 where its word could not be read. -/
theorem takeVector_handler {s t : State} {vec : BitVec 8} {ret : Word} (h : s.takeVector vec ret = .next t) :
    t.psrS = true ∧ t.psrEE = false ∧ t.psrIE = false ∧ (t.psrVec = vec ∨ t.psrVec = 8) := by
  have psr_of : ∀ (u : State) (v : BitVec 8) (w : Word), ((u.afterVector v).jump w).psr = u.psr := by
    intro u v w
    obtain ⟨held, e⟩ := afterTransfer_frame u (u.vectorAddr v) .word .fetch false
    rw [State.afterVector, e]
    rfl
  rcases takeVector_next s t vec ret h with ⟨w, _, rfl⟩ | ⟨w, _, rfl⟩
  · obtain ⟨hS, hEE, hIE, hV⟩ := psrEnter_handler _ _ vec (psr_of (s.enter vec ret) vec w)
    exact ⟨hS, hEE, hIE, .inl hV⟩
  · obtain ⟨hS, hEE, hIE, hV⟩ := psrEnter_handler _ _ 8 (psr_of ((s.enter vec ret).enter 8 ret) 8 w)
    exact ⟨hS, hEE, hIE, .inr hV⟩

/-- An exception saves EPC and changes no stack pointer and no control register but PSR and EPSR. -/
theorem takeVector_saves {s t : State} {vec : BitVec 8} {ret : Word} (h : s.takeVector vec ret = .next t) :
    t.epc = ret ∧ t.spvSp = s.spvSp ∧ t.intSp = s.intSp ∧ SameControl s t := by
  obtain ⟨_, _, _, _, _, rfl⟩ := takeVector_frame s t vec ret h
  exact ⟨rfl, rfl, rfl, by constructor <;> rfl⟩

/-- Settles O60: of what an instruction can do, user mode has the ordinary updates and the exceptions. -/
theorem userModeIsConfined : Obligations.user_mode_is_confined := by
  intro i s t hi hs hf h
  cases exec_effect h with
  | completes h =>
    have hu := h.user hs
    exact ⟨hu.spvSp, hu.intSp, hu.control, .inl ⟨hu.psrS.trans hs, hu.saved, hu.psr⟩⟩
  | traps c u hc hw ht =>
    have hu := hw.user hs
    obtain ⟨hepc, hspv, hint, hctl⟩ := takeVector_saves ht
    obtain ⟨hS, hEE, hIE, hV⟩ := takeVector_handler ht
    refine ⟨hspv.trans hu.spvSp, hint.trans hu.intSp, sameControl_trans hu.control hctl,
      .inr ⟨hS, hepc.trans hw.pc, hEE, hIE, ?_⟩⟩
    rcases hV with e | e
    · exact e ▸ vectorFor_lt u hi hc
    · exact e ▸ (by decide)
  | supervisor hs' _ => exact absurd (hs.symm.trans hs') nofun
  | breaks hf' _ => exact absurd (hf.symm.trans hf') nofun

end Sys2Proof.Machine
end

section
/-! SUPPORT. What MFCR and MTCR read and write, and what the model refuses. -/

namespace Sys2Proof.Machine

/-! ### The control registers -/

@[simp] theorem ifConfigured_true {α : Type} (v : α) : ifConfigured true v = some v := rfl
@[simp] theorem ifConfigured_false {α : Type} (v : α) : ifConfigured false v = none := rfl

theorem ifConfigured_of {α : Type} {b : Bool} (v : α) (h : b = true) : ifConfigured b v = some v := if_pos h

theorem hasMpu_iff (s : State) : s.hasMpu = true ↔ 0 < s.cfg.mpuRegions := by simp [State.hasMpu]

/-- A selected region that exists needs no more than that PRSR names it. -/
theorem ridValid_iff (s : State) : s.ridValid = true ↔ s.prsr.toNat < s.cfg.mpuRegions := by
  simp only [State.ridValid, State.hasMpu, Bool.and_eq_true, decide_eq_true_eq]
  omega

theorem hasIntGuard_iff (s : State) : s.hasIntGuard = true ↔ s.cfg.stackGuard = true ∧ s.cfg.intSp = true := by
  simp [State.hasIntGuard]

/-- The bits of a register of two fields of one bit each. -/
theorem getLsbD_twoBits (i j k : Nat) (a b : Bool) (hij : i ≠ j) (hk : k < 32) :
    (setBit (setBit 0 i a) j b).getLsbD k = (decide (k = i) && a || decide (k = j) && b) := by
  rw [getLsbD_setBit _ _ _ _ hk, getLsbD_setBit _ _ _ _ hk]
  by_cases hj : k = j <;> by_cases hi : k = i <;> simp_all

theorem getLsbD_ccrValue (s : State) (k : Nat) (hk : k < 32) :
    s.ccrValue.getLsbD k = (s.ccrMp.getLsbD k || decide (k = s.cfg.ccrBeBit) && s.cfg.bigEndian ||
      decide (s.cfg.ccrSckLsb ≤ k) && s.cfg.sck.getLsbD (k - s.cfg.ccrSckLsb) ||
      decide (k = s.cfg.ccrBeV2Bit) && s.cfg.beV2) := by
  have one : ∀ i b, (State.ccrValue.boolBit b i).getLsbD k = (decide (k = i) && b) := by
    intro i b
    rw [State.ccrValue.boolBit, getLsbD_setBit _ _ _ _ hk]
    by_cases e : k = i <;> simp [e]
  have sck : (s.cfg.sck.setWidth 32 <<< s.cfg.ccrSckLsb).getLsbD k =
      (decide (s.cfg.ccrSckLsb ≤ k) && s.cfg.sck.getLsbD (k - s.cfg.ccrSckLsb)) := by
    have hsub : k - s.cfg.ccrSckLsb < 32 := by omega
    by_cases e : s.cfg.ccrSckLsb ≤ k
    · have : ¬ k < s.cfg.ccrSckLsb := by omega
      simp only [BitVec.getLsbD_shiftLeft, BitVec.getLsbD_setWidth, e, hk, hsub, this, decide_true, decide_false,
        Bool.not_false, Bool.true_and]
    · have : k < s.cfg.ccrSckLsb := by omega
      simp only [BitVec.getLsbD_shiftLeft, e, this, decide_true, decide_false, Bool.not_true, Bool.and_false,
        Bool.false_and]
  have mp : (s.ccrMp.setWidth 32).getLsbD k = s.ccrMp.getLsbD k := by
    rw [BitVec.getLsbD_setWidth, decide_eq_true hk, Bool.true_and]
  simp only [State.ccrValue, BitVec.getLsbD_or, one, sck, mp]

section
variable {s : State} {n sel : Nat} {v : Word}

/-- MFCR in supervisor mode copies what the control register reads. -/
theorem mfcr32_reads {rz : Nat} (hs : s.psrS = true) (hr : s.hasReg rz = true) (hv : s.readCr n sel = some v) :
    Completes (.mfcr32 rz n sel) s (Writes s · rz v 4) := by
  refine ⟨_, ?_, result_writes s 4 rz v hr⟩
  have hall : ∀ k ∈ [rz], s.hasReg k = true := by simpa using hr
  rw [exec, execMfcr32, privileged_supervisor _ _ hs, withRegs_of_all _ _ _ hall, hv]
  rfl

/-- MTCR in supervisor mode writes the control register, unless it requests a reset. -/
theorem mtcr32_writes {t : State} {rx : Nat} (hs : s.psrS = true) (hr : s.hasReg rx = true) (hv : v = s.reg rx)
    (hw : s.writeCr n sel v = some t) (hq : s.requestsReset n sel v = false) :
    exec (.mtcr32 rx n sel) s = .next (t.advance 4) := by
  subst hv
  have hall : ∀ k ∈ [rx], s.hasReg k = true := by simpa using hr
  rw [exec, execMtcr32, privileged_supervisor _ _ hs, withRegs_of_all _ _ _ hall, hq, hw]
  rfl

/-- Only a write to CHR requests a reset. -/
theorem requestsReset_other (h : n ≠ 31 ∨ sel ≠ 0) : s.requestsReset n sel v = false := by
  rcases h with h | h <;> simp [State.requestsReset, h]

end

/-- Settles O40: each register of the table reads its value, by `mfcr32_reads`. -/
theorem controlRegisterReads : Obligations.control_register_reads := by
  intro s rz hs hr
  have reads : ∀ {n sel v}, s.readCr n sel = some v → Completes (.mfcr32 rz n sel) s (Writes s · rz v 4) :=
    mfcr32_reads hs hr
  refine ⟨reads rfl, fun h => reads (ifConfigured_of _ h), reads rfl, reads rfl,
    fun h => reads (ifConfigured_of _ (decide_eq_true h)), fun h => reads (ifConfigured_of _ (decide_eq_true h)),
    reads rfl, ⟨_, reads rfl, getLsbD_ccrValue s⟩, fun h => reads (ifConfigured_of _ ((hasMpu_iff s).mpr h)),
    fun h => reads (ifConfigured_of _ ((ridValid_iff s).mpr h)), fun h => reads ?_,
    fun h => ⟨_, reads rfl, fun k => getLsbD_twoBits _ _ k _ _ h⟩, reads rfl, fun h => reads (ifConfigured_of _ h),
    fun hg h => ⟨_, reads (ifConfigured_of _ hg), fun k => getLsbD_twoBits _ _ k _ _ h⟩,
    fun h => reads (ifConfigured_of _ h), fun h => reads (ifConfigured_of _ h),
    fun hg hi => reads (ifConfigured_of _ ((hasIntGuard_iff s).mpr ⟨hg, hi⟩)),
    fun hg hi => reads (ifConfigured_of _ ((hasIntGuard_iff s).mpr ⟨hg, hi⟩))⟩
  rw [BitVec.ofNat_toNat]
  exact ifConfigured_of _ ((hasMpu_iff s).mpr h)

/-- Settles O41: each register of the table is written with its implemented bits, by `mtcr32_writes`. -/
theorem controlRegisterWrites : Obligations.control_register_writes := by
  intro s rx v hs hr hv
  have writes : ∀ {n sel t}, n ≠ 31 ∨ sel ≠ 0 → s.writeCr n sel v = some t →
      exec (.mtcr32 rx n sel) s = .next (t.advance 4) :=
    fun hne hw => mtcr32_writes hs hr hv hw (requestsReset_other hne)
  have low : ∀ {n t}, n ≠ 31 → s.writeCr n 0 v = some t → exec (.mtcr32 rx n 0) s = .next (t.advance 4) :=
    fun hne => writes (.inl hne)
  have high : ∀ {n sel t}, sel ≠ 0 → s.writeCr n sel v = some t →
      exec (.mtcr32 rx n sel) s = .next (t.advance 4) :=
    fun hne => writes (.inr hne)
  exact ⟨low (by decide) rfl, fun h => low (by decide) (ifConfigured_of _ h), low (by decide) rfl,
    low (by decide) rfl, fun h => low (by decide) (ifConfigured_of _ (decide_eq_true h)),
    fun h => low (by decide) (ifConfigured_of _ (decide_eq_true h)), low (by decide) rfl, low (by decide) rfl,
    fun h => low (by decide) (ifConfigured_of _ ((hasMpu_iff s).mpr h)),
    fun h => low (by decide) (ifConfigured_of _ ((ridValid_iff s).mpr h)),
    fun h => low (by decide) (ifConfigured_of _ ((hasMpu_iff s).mpr h)),
    fun h => mtcr32_writes hs hr hv rfl h, high (by decide) rfl, fun h => high (by decide) (ifConfigured_of _ h),
    fun h => high (by decide) (ifConfigured_of _ h), fun h => high (by decide) (ifConfigured_of _ h),
    fun h => high (by decide) (ifConfigured_of _ h),
    fun hg hi => high (by decide) (ifConfigured_of _ ((hasIntGuard_iff s).mpr ⟨hg, hi⟩)),
    fun hg hi => high (by decide) (ifConfigured_of _ ((hasIntGuard_iff s).mpr ⟨hg, hi⟩))⟩

/-! ### Refusals -/

/-- A control register that reads a value is in the table, and its option is configured (10_state.md rule R30). -/
theorem crExists_of_readCr {s : State} {n sel : Nat} {v : Word} (h : s.readCr n sel = some v) :
    CrExists s.cfg n sel := by
  unfold State.readCr at h
  unfold CrExists
  split at h
  case h_1 | h_3 | h_4 | h_7 | h_8 | h_12 | h_13 => exact .inl (by decide)
  case h_20 => cases h
  all_goals obtain ⟨hb, -⟩ := ifConfigured_some h
  case h_2 => exact .inr (.inl ⟨hb, rfl⟩)
  case h_5 => exact .inr (.inr (.inl ⟨of_decide_eq_true hb, rfl⟩))
  case h_6 => exact .inr (.inr (.inr (.inl ⟨of_decide_eq_true hb, rfl⟩)))
  case h_9 | h_11 => exact .inr (.inr (.inr (.inr (.inl ⟨(hasMpu_iff s).mp hb, by decide⟩))))
  case h_10 =>
    have hmpu : 0 < s.cfg.mpuRegions := Nat.zero_lt_of_lt ((ridValid_iff s).mp hb)
    exact .inr (.inr (.inr (.inr (.inl ⟨hmpu, by decide⟩))))
  case h_14 => exact .inr (.inr (.inr (.inr (.inr (.inl ⟨hb, rfl⟩)))))
  case h_15 | h_16 | h_17 => exact .inr (.inr (.inr (.inr (.inr (.inr (.inl ⟨hb, by decide⟩))))))
  case h_18 | h_19 =>
    obtain ⟨hg, hi⟩ := (hasIntGuard_iff s).mp hb
    exact .inr (.inr (.inr (.inr (.inr (.inr (.inr ⟨hg, hi, by decide⟩))))))

theorem readCr_none {s : State} {n sel : Nat} (h : ¬ CrExists s.cfg n sel) : s.readCr n sel = none := by
  cases e : s.readCr n sel with
  | none => rfl
  | some v => exact absurd (crExists_of_readCr e) h

theorem ifConfigured_none {α β : Type} {b : Bool} {v : α} (w : β) (h : ifConfigured b v = none) :
    ifConfigured b w = none := by
  cases b <;> simp_all

/-- The registers that cannot be read cannot be written either. -/
theorem writeCr_none {s : State} {n sel : Nat} (v : Word) (h : s.readCr n sel = none) : s.writeCr n sel v = none := by
  unfold State.writeCr
  split
  case h_1 | h_3 | h_4 | h_7 | h_8 | h_12 | h_13 => cases h
  case h_20 => rfl
  all_goals exact ifConfigured_none _ h

theorem crExists_chr (c : Config) : CrExists c 31 0 := .inl (by decide)

/-- Every register below 16 exists. -/
theorem hasReg_of_lt {s : State} {n : Nat} (h : n < 16) : s.hasReg n = true := by simp [State.hasReg, h]

/-- A privileged instruction checks its registers in supervisor mode, after the privilege. -/
theorem privileged_refuses_missing {s : State} {r : Nat} {regs : List Nat} {k : Result} (hs : s.psrS = true)
    (hr : r ∈ regs) (h : s.hasReg r = false) : s.privileged (s.withRegs regs k) = .refused .unimplementedRegister :=
  (privileged_supervisor s _ hs).trans (withRegs_missing s regs k r hr h)

/-- A well-formed instruction that names a register that does not exist is refused (92_eei_decisions.md D2). -/
theorem exec_refuses_missing {s : State} {i : Instr} {r : Nat} (hi : i.wf = true) (hs : s.psrS = true)
    (hr : r ∈ namedRegs i) (h : s.hasReg r = false) : exec i s = .refused .unimplementedRegister := by
  have low_exists : ∀ {n}, n < 8 → r ∈ [n] → False := by
    intro n hn hm
    rw [List.mem_singleton.mp hm, hasReg_of_lt (by omega)] at h
    cases h
  unfold exec
  cases i
  case addi16spsp | subi16spsp | br16 | br32 | bt16 | bt32 | bf16 | bf32 | bsr32 | trap32 | rts16 | ipush16 | ipop16
      | nie16 | nir16 | rte32 | stop32 | doze32 | sync32 | wait32 | bmset32 | bmclr32 | bkpt16 | push16 | pop16 =>
    exact absurd hr List.not_mem_nil
  case jmpix16 rx n => exact (low_exists (of_decide_eq_true (Bool.and_eq_true_iff.mp hi).1) hr).elim
  case bpush16h rz | bpush16w rz | bpop16h rz | bpop16w rz =>
    exact (low_exists (of_decide_eq_true hi) hr).elim
  case mfcr32 | mtcr32 => exact privileged_refuses_missing hs hr h
  case ldq32 | stq32 => exact withRegs_missing s _ _ r (List.mem_cons.mpr (.inl (List.mem_singleton.mp hr))) h
  case ldm32 | stm32 => exact withRegs_missing s _ _ r hr h
  all_goals
    refine withRegs_missing s _ _ r ?_ h
    simp only [namedRegs, List.mem_cons, List.not_mem_nil, or_false] at hr ⊢
    omega

/-- LDM with its base in the range is refused (93_implementation_defined.md U13). -/
theorem loadRange_base_in_range {s : State} {ry rx n : Nat} (hall : ∀ k ≤ n, s.hasReg (ry + k) = true)
    (hlo : ry ≤ rx) (hhi : rx ≤ ry + n) : s.loadRange ry rx n = .refused .ldmBaseInRange := by
  have mem_iff : ∀ r, r ∈ rangeRegs ry n ↔ ry ≤ r ∧ r ≤ ry + n := by
    intro r
    simp only [rangeRegs, List.mem_range'_1]
    omega
  have exists_of_mem : ∀ r, ry ≤ r ∧ r ≤ ry + n → s.hasReg r = true := by
    intro r hr
    have := hall (r - ry) (by omega)
    rwa [show ry + (r - ry) = r by omega] at this
  have hregs : ∀ r ∈ rx :: rangeRegs ry n, s.hasReg r = true := by
    intro r hr
    rcases List.mem_cons.mp hr with rfl | hr
    · exact exists_of_mem r ⟨hlo, hhi⟩
    · exact exists_of_mem r ((mem_iff r).mp hr)
  rw [State.loadRange, withRegs_of_all s _ _ hregs, if_pos]
  exact List.contains_iff_mem.mpr ((mem_iff rx).mpr ⟨hlo, hhi⟩)

/-- BPUSH and BPOP outside the translation mode are refused (92_eei_decisions.md D24). -/
theorem bct_mode_off {s : State} {rz : Nat} (w : Width) (hb : s.cfg.bct = true) (hm : s.psrBM = false) (hr : rz < 8) :
    s.bctPush rz w = .refused .bctModeOff ∧ s.bctPop rz w = .refused .bctModeOff := by
  have hall : ∀ k ∈ [rz], s.hasReg k = true := fun k hk => hasReg_of_lt (by rw [List.mem_singleton.mp hk]; omega)
  constructor
  · rw [State.bctPush, hb, requires_configured, withRegs_of_all _ _ _ hall, if_pos hm]
  · rw [State.bctPop, hb, requires_configured, withRegs_of_all _ _ _ hall, if_pos hm]

/-- Settles O47: each refusal is the first thing its instruction does, after the privilege. -/
theorem refusalsOfTheSpec : Obligations.refusals_of_the_spec := by
  intro s i rz rx ry n sel
  have single : ∀ {r : Nat}, s.hasReg r = true → ∀ k ∈ [r], s.hasReg k = true := fun h k hk => by
    rwa [List.mem_singleton.mp hk]
  refine ⟨fun hi hs ⟨r, hr, hm⟩ => exec_refuses_missing hi hs hr hm, fun hr hn => ?_,
    fun hall hlo hhi => loadRange_base_in_range hall hlo hhi, fun hlo hhi => ?_, fun hb hm hr => ?_,
    fun hs hz hx hc => ⟨?_, ?_⟩⟩
  · rw [exec, execBmaski32, withRegs_of_all _ _ _ (single hr), if_pos hn]
  · exact loadRange_base_in_range (fun k hk => hasReg_of_lt (by omega)) hlo hhi
  · obtain ⟨hpushH, hpopH⟩ := bct_mode_off .half hb hm hr
    obtain ⟨hpushW, hpopW⟩ := bct_mode_off .word hb hm hr
    exact ⟨hpushH, hpushW, hpopH, hpopW⟩
  · rw [exec, execMfcr32, privileged_supervisor _ _ hs, withRegs_of_all _ _ _ (single hz), readCr_none hc]
  · have hne : n ≠ 31 ∨ sel ≠ 0 := by
      by_contra h
      obtain ⟨rfl, rfl⟩ : n = 31 ∧ sel = 0 := by omega
      exact hc (crExists_chr s.cfg)
    rw [exec, execMtcr32, privileged_supervisor _ _ hs, withRegs_of_all _ _ _ (single hx), requestsReset_other hne,
      writeCr_none _ (readCr_none hc)]
    rfl

end Sys2Proof.Machine
end

section
/-! SUPPORT. The resets, and the bank of R14 after an exception entry. -/

namespace Sys2Proof.Machine

/-! ### Resets -/

/-- What answers a transfer depends on the ranges, the step's free values and the mode alone. -/
theorem slave_congr {s t : State} (k : AccessKind) (cached : Bool) (a : Word) (hcfg : t.cfg = s.cfg)
    (hans : t.answers = s.answers) (hfree : t.free = s.free) (hpsr : t.psr = s.psr) :
    t.slave k cached a = s.slave k cached a := by
  have hrange : t.rangeAt a = s.rangeAt a := by simp only [State.rangeAt, hans, hcfg]
  have hattr : t.hprot k cached a = s.hprot k cached a := by simp only [State.hprot, State.psrS, hfree, hpsr]
  rw [State.slave, State.slave, hrange, hattr]

/-- After a reset the memory protection unit and the cache are off, so the reset vector is what memory holds at 0. -/
theorem fetchRead_after_reset (s : State) (h : s.resetRegisters.slave .fetch false 0 = some .ram) :
    s.resetRegisters.fetchRead 0 .word = .ok (s.mem.load s.cfg.bigEndian 0 .word) := by
  have hcheck : s.resetRegisters.checkAccess 0 .word .fetch false = .ok () := by
    have htcip : isTcip 0#32 = false := by decide
    have hmp : s.resetRegisters.ccrMp = 0 := rfl
    simp [State.checkAccess, State.mpuCheck, htcip, hmp]
  have hbus : (s.resetRegisters.cfg.tcip && isTcip 0) = false := by
    rw [show isTcip 0 = false by decide, Bool.and_false]
  have hcached : s.resetRegisters.isCached 0 .fetch = .ok false := by
    have hcer : s.resetRegisters.cer = 0 := rfl
    simp [State.isCached, hcer]
  simp only [State.fetchRead, hcheck, State.busRead, hbus, hcached, Bool.false_eq_true, if_false]
  exact cacheRead_memory s.resetRegisters 0 .word .fetch false h nofun

/-- The last byte written to an address stays. -/
theorem byteAt_foldl_last (ps qs : List (Word × Byte)) (p : Word × Byte) (m : Memory) (h : ∀ q ∈ qs, q.1 ≠ p.1) :
    ((ps ++ p :: qs).foldl (fun m p => m.setByte p.1 p.2) m).byteAt p.1 = p.2 := by
  rw [List.foldl_append, List.foldl_cons, byteAt_foldl_other qs _ _ h, byteAt_setByte_same]

/-- The system's part of a reset is done as the environment said, once. -/
theorem systemReset_answered (s : State) : SystemAnswered s s.systemReset := by
  obtain ⟨old, e⟩ := systemReset_frame s
  rw [e]
  exact ⟨rfl, rfl, fun x hx => byteAt_foldl_other _ _ _ hx, fun ps p qs hw hq => by
    simp only [hw]
    exact byteAt_foldl_last ps qs p s.mem hq⟩

/-- A reset whose vector memory answers gives every register its reset value, and keeps the request of a software reset
(10_state.md rule R63). -/
theorem takeReset_done (s : State) (h : ResetVectorReads s) :
    ∃ t, s.takeReset = .next t ∧ ResetDone s t ∧ t.run = .normal ∧ t.resetRequest = s.resetRequest := by
  have hf := fetchRead_after_reset s.systemReset h
  have hreq : s.systemReset.resetRequest = s.resetRequest := by
    obtain ⟨old, e⟩ := systemReset_frame s
    rw [e]
  have hpacr : ∀ i : Fin 8, (s.systemReset.resetRegisters.pacr[i]).getLsbD 0 = false := by
    intro i
    have hbit : (pacrMask &&& ~~~1#32).getLsbD 0 = false := by decide
    simp only [State.resetRegisters, Fin.getElem_fin, Vector.getElem_ofFn]
    rw [BitVec.getLsbD_and, hbit, Bool.and_false]
  refine ⟨s.systemReset.resetRegisters.jump (s.systemReset.mem.load s.systemReset.cfg.bigEndian 0 .word),
    by simp only [State.takeReset, hf], ⟨rfl, rfl, rfl, rfl, rfl, fun i => ?_, hpacr, rfl, rfl, rfl, rfl, rfl,
    systemReset_answered s, ?_⟩, rfl, hreq⟩
  · exact Vector.getElem_replicate i.isLt
  · rw [jump_pc, (systemReset_keeps s).cfg]
    rfl

/-- The platform is told of a software reset; it is a reset otherwise. -/
theorem softReset_done (s : State) (h : ResetVectorReads s) :
    ∃ t, s.softReset = .next t ∧ ResetDone s t ∧ t.run = .normal ∧ t.resetRequest = true := by
  have hv : ResetVectorReads { s with resetRequest := true } := by
    obtain ⟨old, e⟩ := systemReset_frame s
    obtain ⟨old', e'⟩ := systemReset_frame { s with resetRequest := true }
    unfold ResetVectorReads at h ⊢
    rw [← h, e, e']
    exact slave_congr _ _ _ rfl rfl rfl rfl
  exact takeReset_done { s with resetRequest := true } hv

/-- A step makes the environment's next move. -/
theorem step_move {s : State} {m : Move} {ms : List Move} (h : s.moves = m :: ms) :
    step s = { s.tick with moves := ms }.applyMove m := by
  rw [step, State.stepBody, h]

/-- A software reset that the debugger requests leaves the core in debug mode (60_exceptions.md rule R461). -/
theorem debugger_requests_reset {s t : State} {n sel : Nat} {v : Word} (hrun : s.run = .debug)
    (hq : s.requestsReset n sel v = true) (ht : s.softReset = .next t) :
    s.applyMove (.debugCr n sel v) = .next { t with run := .debug } := by
  rw [State.applyMove, State.inDebug, if_pos hrun, State.debugWriteCr, if_pos hq, ht]

/-- Settles O49: the key takes the place of the write, as a reset with PSR.EE = 1 and as vector 8 with PSR.EE = 0. -/
theorem softwareResetRequest : Obligations.software_reset_request := by
  intro s u rx v ms
  refine ⟨fun hs hr hq => ?_, fun hrun hmoves hu hq hv => ?_⟩
  · have hexec : exec (.mtcr32 rx 31 0) s = if s.psrEE then s.softReset else s.raise .softReset := by
      have hall : ∀ k ∈ [rx], s.hasReg k = true := by simpa using hr
      rw [exec, execMtcr32, privileged_supervisor _ _ hs, withRegs_of_all _ _ _ hall, hq, if_pos rfl]
    refine ⟨fun hee w hw => ?_, fun hee hv => ?_⟩
    · obtain ⟨t, ht, hentered⟩ := raise_entered s .softReset w rfl hw
      exact ⟨t, by rw [hexec, if_neg (by simp [hee]), ht], hentered⟩
    · obtain ⟨t, ht, hdone⟩ := softReset_done s hv
      exact ⟨t, by rw [hexec, if_pos hee, ht], hdone⟩
  · obtain ⟨t, ht, hdone, _, hreq⟩ := softReset_done u hv
    have hrun' : u.run = .debug := by rw [hu]; exact hrun
    have hq' : u.requestsReset 31 0 v = true := by rw [hu]; exact hq
    have hstep : step s = .next { t with run := .debug } := by
      rw [step_move hmoves, ← hu, debugger_requests_reset hrun' hq' ht]
    exact ⟨_, hstep, hdone, rfl, hreq⟩

/-- The general-register reset leaves 0 in every register (92_eei_decisions.md D7). -/
theorem clearRegisters_reg (s : State) (n : Nat) : s.clearRegisters.reg n = 0 := by
  have hsp : s.clearRegisters.sp = 0 := by
    unfold State.sp
    split <;> rfl
  unfold State.reg
  split
  · exact Vector.getElem_replicate _
  · rw [hsp]
    simp [State.clearRegisters]

theorem clearRegisters_spOf (s : State) (b : Bank) : s.clearRegisters.spOf b = 0 := by cases b <;> rfl

/-- Settles O50: the reset input is the reset transition, the general-register reset clears the registers only. -/
theorem resetInputs : Obligations.reset_inputs := by
  intro s u ms hu
  have hstep : ∀ m, s.moves = m :: ms → step s = u.applyMove m := fun m hm => by rw [step_move hm, hu]
  refine ⟨fun hm hv => ?_, fun hm hsec hopt => ?_⟩
  · obtain ⟨t, ht, hdone, hrun, hreq⟩ := takeReset_done u hv
    exact ⟨t, (hstep _ hm).trans ht, hdone, hrun, hreq.trans (by rw [hu]; rfl)⟩
  · refine ⟨u.clearRegisters, (hstep _ hm).trans ?_, clearRegisters_reg u, clearRegisters_spOf u, ?_⟩
    · have hopts : (u.cfg.security && u.cfg.gprReset) = true := by rw [hu]; simp [hsec, hopt]
      rw [State.applyMove, if_pos hopts]
    · subst hu
      exact ⟨rfl, rfl, ⟨rfl, rfl⟩, by constructor <;> rfl, fun _ => rfl⟩

/-! ### The bank of R14 in an exception -/

theorem reg14_eq_spOf (s : State) : s.reg 14 = s.spOf s.bank14 := by
  simp only [State.reg, State.sp, State.spOf]
  rfl

/-- Settles O53: after an entry PSR.S is 1 and VEC the vector, which select the bank. -/
theorem interruptBank : Obligations.interrupt_bank := by
  rintro s t v ret w ⟨_, _, hS, hV, _, _, _, _, ⟨_, _, hsp, _⟩, hctl, _⟩
  refine ⟨?_, hsp .user, hsp .supervisor, hsp .interrupt⟩
  rw [reg14_eq_spOf, hsp]
  simp only [State.bank14, hS, hV, hctl.cfg, hctl.chrIse, Bool.true_eq_false, if_false, Bool.and_eq_true,
    decide_eq_true_eq, and_assoc]
  split <;> rfl

end Sys2Proof.Machine
end

section
/-! SUPPORT. Words stored and read back, the transfers that are allowed, and the results of NIE and NIR. -/

namespace Sys2Proof.Machine

/-! ### Words in memory -/

/-- The four bytes of a word, put together again. -/
theorem bytes_append (v : Word) :
    v.extractLsb' 24 8 ++ v.extractLsb' 16 8 ++ v.extractLsb' 8 8 ++ v.extractLsb' 0 8 = v := by
  ext i hi
  simp only [BitVec.getElem_append, BitVec.getElem_extractLsb']
  split
  · simp [← BitVec.getLsbD_eq_getElem]
  · split
    · rw [← BitVec.getLsbD_eq_getElem]
      congr 1
      omega
    · split <;> rw [← BitVec.getLsbD_eq_getElem] <;> congr 1 <;> omega

/-- A word reads back as it was stored. -/
theorem load_store_same (m : Memory) (be : Bool) (a v : Word) : (m.store be a v .word).load be a .word = v := by
  have byte : ∀ k < 4, (m.store be a v .word).byteAt (a + BitVec.ofNat 32 k) =
      v.extractLsb' (8 * if be then 3 - k else k) 8 := by
    intro k hk
    cases be with
    | true => exact byteAt_store_big m a v .word k hk
    | false => exact byteAt_store_little m a v .word k hk
  have b0 := byte 0 (by decide)
  have b1 := byte 1 (by decide)
  have b2 := byte 2 (by decide)
  have b3 := byte 3 (by decide)
  rw [show BitVec.ofNat 32 0 = 0#32 from rfl, BitVec.add_zero] at b0
  have hv := bytes_append v
  cases be <;> simp_all [Memory.load]

/-- An address 4 bytes or more after a word's is none of its bytes. -/
theorem word_covers_false {a x : Word} (h : 4 ≤ (x - a).toNat) : Width.word.covers a x = false :=
  decide_eq_false (Nat.not_lt.mpr h)

/-- A word that a store does not touch reads as before. -/
theorem load_store_other (m : Memory) (be be' : Bool) (a b v : Word) (hlo : 4 ≤ (b - a).toNat)
    (hhi : (b - a).toNat + 4 ≤ 2 ^ 32) : (m.store be a v .word).load be' b .word = m.load be' b .word := by
  have byte : ∀ k < 4, (m.store be a v .word).byteAt (b + BitVec.ofNat 32 k) = m.byteAt (b + BitVec.ofNat 32 k) := by
    intro k hk
    exact byteAt_store_other _ _ _ _ _ _ (word_covers_false (by bv_omega))
  have b0 := byte 0 (by decide)
  rw [show BitVec.ofNat 32 0 = 0#32 from rfl, BitVec.add_zero] at b0
  simp only [Memory.load, b0, show b + 1 = b + BitVec.ofNat 32 1 from rfl, byte 1 (by decide),
    show b + 2 = b + BitVec.ofNat 32 2 from rfl, byte 2 (by decide), show b + 3 = b + BitVec.ofNat 32 3 from rfl,
    byte 3 (by decide)]

/-- A word stored just below stored words. -/
theorem storedWords_cons {s u t : State} {a v : Word} {vs : List Word} (hlen : 4 * (vs.length + 1) ≤ 2 ^ 32)
    (ht : t.mem = u.mem.store s.cfg.bigEndian a v .word) (h : StoredWords s u (a + 4) vs) :
    StoredWords s t a (v :: vs) := by
  obtain ⟨hwords, hrest⟩ := h
  refine ⟨fun k hk => ?_, fun x hx => ?_⟩
  · cases k with
    | zero =>
      rw [show a + BitVec.ofNat 32 (4 * 0) = a from BitVec.add_zero a, ht]
      exact load_store_same u.mem s.cfg.bigEndian a v
    | succ k =>
      have hk' : k < vs.length := Nat.lt_of_succ_lt_succ hk
      have haddr : a + BitVec.ofNat 32 (4 * (k + 1)) = a + 4 + BitVec.ofNat 32 (4 * k) := by bv_omega
      rw [haddr, ht, load_store_other]
      · exact hwords k hk'
      · bv_omega
      · bv_omega
  · simp only [List.length_cons] at hx
    rw [ht, byteAt_store_other _ _ _ _ _ _ (word_covers_false (by omega))]
    exact hrest x (by bv_omega)

theorem storedWords_nil {s t : State} (a : Word) (h : t.mem = s.mem) : StoredWords s t a [] :=
  ⟨fun _ hk => absurd hk (Nat.not_lt_zero _), fun _ _ => by rw [h]⟩

/-! ### Transfers that are allowed -/

section
variable (s : State) (mem : Memory) (held old : List Span) (stale : List Stale)

theorem mpuRegion_marks (a : Word) (n : Nat) :
    State.mpuRegion { s with mem, held, old, stale } a n = s.mpuRegion a n := by
  induction n with
  | zero => rfl
  | succ n ih =>
    simp only [State.mpuRegion, ih]
    rfl

theorem inCacheRegion_marks (a : Word) (n : Nat) :
    State.inCacheRegion { s with mem, held, old, stale } a n = s.inCacheRegion a n := by
  induction n with
  | zero => rfl
  | succ n ih => simp only [State.inCacheRegion, ih]

/-- Memory, and what the cache may hold, decide no check of an access. -/
theorem allowed_marks {a : Word} {w : Width} {k : AccessKind} {sp : Bool} (h : Allowed s a w k sp) :
    Allowed { s with mem, held, old, stale } a w k sp := by
  obtain ⟨haligned, hcheck, htcip, hslave, hcached⟩ := h
  refine ⟨haligned, ?_, htcip, hslave, ?_⟩
  · rw [← hcheck]
    simp only [State.checkAccess, State.guardFails, State.mpuCheck, mpuRegion_marks]
    rfl
  · rw [← hcached]
    simp only [State.isCached, inCacheRegion_marks]
    rfl

end

/-- A write that is allowed stores its value; else only marks change. -/
theorem writeData_allowed_frame {s : State} {a : Word} {w : Width} {multi sp : Bool} (v : Word)
    (h : Allowed s a w .write sp) : ∃ held old stale, s.writeData a w multi sp v =
      ({ s with mem := s.mem.store s.cfg.bigEndian a v w, held, old, stale }, none) := by
  obtain ⟨held, old, e⟩ := markLines_frame
    ({ s with mem := s.mem.store s.cfg.bigEndian a v w }.markStale a w.bytes) a w.bytes false s.cfg.smcCoherent
  exact ⟨held, old, _, (writeData_allowed s a w multi sp v h).trans (congrArg (·, none) e)⟩

/-- An allowed store of a multi-access instruction writes its word, and the transfers go on. -/
theorem transfer_store_allowed {s : State} {sp : Bool} {a : Word} (v : Word) (hb : s.between = [])
    (h : Allowed s a .word .write sp) : ∃ held old stale, ∀ l xs, s.transfer sp l (.store v a :: xs) =
      State.transfer { s with mem := s.mem.store s.cfg.bigEndian a v .word, held, old, stale } sp l xs := by
  obtain ⟨held, old, stale, e⟩ := writeData_allowed_frame v (multi := true) h
  refine ⟨held, old, stale, fun l xs => ?_⟩
  rw [State.transfer, e]
  exact congrArg (State.transfer · sp l xs) (landWrites_of_nil _ hb)

/-- Two consecutive allowed words. -/
theorem allowedWords_two {s : State} {a : Word} {k : AccessKind} {sp : Bool} (h : AllowedWords s a 2 k sp) :
    s.between = [] ∧ Allowed s a .word k sp ∧ Allowed s (a + 4) .word k sp := by
  obtain ⟨hb, hw⟩ := h
  have h0 := hw 0 (by decide)
  rw [show a + BitVec.ofNat 32 (4 * 0) = a from BitVec.add_zero a] at h0
  exact ⟨hb, h0, hw 1 (by decide)⟩

/-! ### NIE and NIR -/

/-- PSR after NIE: EE and IE are set (48_multi.md rule R370). -/
def nestPsr (p : Word) : Word := setBit (setBit p 8 true) 6 true

theorem getLsbD_nestPsr (p : Word) (k : Nat) :
    (nestPsr p).getLsbD k = if k = 6 ∨ k = 8 then true else p.getLsbD k := by
  by_cases hk : k < 32
  · rw [nestPsr, getLsbD_setBit _ _ _ _ hk, getLsbD_setBit _ _ _ _ hk]
    by_cases h6 : k = 6 <;> by_cases h8 : k = 8 <;> simp [h6, h8]
  · rw [if_neg (by omega), BitVec.getLsbD_of_ge _ k (by omega), BitVec.getLsbD_of_ge _ k (by omega)]

/-- Setting EE and IE changes neither S nor VEC, so R14 names the same bank. -/
theorem nestPsr_bank14 (s : State) : State.bank14 { s with psr := nestPsr s.psr } = s.bank14 := by
  have hvec : (nestPsr s.psr).extractLsb' 16 8 = s.psr.extractLsb' 16 8 := by
    ext k hk
    rw [BitVec.getElem_extractLsb', BitVec.getElem_extractLsb', getLsbD_nestPsr, if_neg (by omega)]
  simp only [State.bank14, State.psrS, State.psrVec, getLsbD_nestPsr, hvec]
  rfl

theorem nestPsr_reg (s : State) (n : Nat) : State.reg { s with psr := nestPsr s.psr } n = s.reg n := by
  simp only [State.reg, State.sp, nestPsr_bank14]

/-- What NIE leaves, where both words can be stored. -/
theorem nie16_completes {s : State} (hn : s.cfg.nest = true) (hs : s.psrS = true)
    (h : AllowedWords s (s.sp - 8) 2 .write true) : ∃ mem held old stale,
      exec .nie16 s = .next (State.advance
        { State.setReg { s with mem, held, old, stale } 14 (s.sp - 8) with psr := nestPsr s.psr } 2) ∧
      StoredWords s { s with mem } (s.sp - 8) [s.epsr, s.epc] := by
  obtain ⟨hb, hlow, hhigh⟩ := allowedWords_two h
  have haddr : s.sp - 8 + 4 = s.sp - 4 := by bv_omega
  rw [haddr] at hhigh
  obtain ⟨held, old, stale, e⟩ := transfer_store_allowed s.epc hb hhigh
  obtain ⟨held', old', stale', e'⟩ := transfer_store_allowed s.epsr
    (s := { s with mem := s.mem.store s.cfg.bigEndian (s.sp - 4) s.epc .word, held, old, stale }) hb
    (allowed_marks s _ held old stale hlow)
  refine ⟨_, held', old', stale', ?_, storedWords_cons (by simp) rfl
    (u := { s with mem := s.mem.store s.cfg.bigEndian (s.sp - 4) s.epc .word }) ?_⟩
  · rw [exec, execNie16, hn, requires_configured, privileged_supervisor _ _ hs, State.multi, State.nieXfers, e, e']
    rfl
  · rw [haddr]
    exact storedWords_cons (by simp) rfl (storedWords_nil _ rfl)

/-- What NIR leaves, where both words can be read. -/
theorem nir16_completes {s : State} (hn : s.cfg.nest = true) (hs : s.psrS = true)
    (h : AllowedWords s s.sp 2 .read true) :
    exec .nir16 s = .next (State.returnFromException { s.setReg 14 (s.sp + 8) with
      epsr := s.mem.load s.cfg.bigEndian s.sp .word &&& psrMask s.cfg
      epc := s.mem.load s.cfg.bigEndian (s.sp + 4) .word }) := by
  obtain ⟨hb, hlow, hhigh⟩ := allowedWords_two h
  rw [exec, execNir16, hn, requires_configured, privileged_supervisor _ _ hs, readData_allowed _ _ _ _ _ hlow]
  simp only [afterRead_allowed _ _ _ true _ hlow, landWrites_of_nil s hb, readData_allowed _ _ _ true _ hhigh,
    afterRead_allowed _ _ _ true _ hhigh]

/-- A register other than R14 does not depend on the bank. -/
theorem returnFromException_reg (s : State) (n : Nat) (hn : n ≠ 14) : s.returnFromException.reg n = s.reg n := by
  simp only [State.reg, if_neg hn]
  rfl

theorem returnFromException_spOf (s : State) (b : Bank) : s.returnFromException.spOf b = s.spOf b := by
  cases b <;> rfl

/-- The bank that R14 names is the one that a write to R14 changes. -/
theorem spOf_setReg_bank14 (s : State) (v : Word) : (s.setReg 14 v).spOf s.bank14 = v := by
  cases hb : s.bank14 <;> simp [State.spOf, State.setReg, hb]

/-- Settles O35: the words that NIE stores and NIR loads, and the registers each leaves. -/
theorem nestResults : Obligations.nest_results := by
  intro s hn hs
  refine ⟨fun h => ?_, fun h => ?_⟩
  · obtain ⟨mem, held, old, stale, he, hstored⟩ := nie16_completes hn hs h
    have hreg : ∀ n, State.reg { State.setReg { s with mem, held, old, stale } 14 (s.sp - 8) with
        psr := nestPsr s.psr } n = (s.setReg 14 (s.sp - 8)).reg n :=
      nestPsr_reg (State.setReg { s with mem, held, old, stale } 14 (s.sp - 8))
    refine ⟨_, he, hstored, ?_, ⟨fun n hne => ?_, fun b hb => ?_⟩, getLsbD_nestPsr s.psr 8, getLsbD_nestPsr s.psr 6,
      fun k h6 h8 => (getLsbD_nestPsr s.psr k).trans (if_neg (by omega)), ⟨rfl, rfl⟩, by constructor <;> rfl, rfl⟩
    · exact (hreg 14).trans (reg_setReg_same s 14 _ rfl)
    · exact (hreg n).trans (reg_setReg_other s 14 n _ (by simpa using hne))
    · exact (show _ = (s.setReg 14 (s.sp - 8)).spOf b by cases b <;> rfl).trans (spOf_setReg_other s 14 _ b hb)
  · refine ⟨_, nir16_completes hn hs h, rfl, rfl, ?_, rfl, ?_, fun b hb => ?_, fun n hne => ?_, by constructor <;> rfl,
      fun _ => rfl⟩
    · exact (BitVec.and_assoc _ _ _).trans (congrArg _ (BitVec.and_self))
    · exact (returnFromException_spOf _ _).trans (spOf_setReg_bank14 s _)
    · exact (returnFromException_spOf _ _).trans (spOf_setReg_other s 14 _ b hb)
    · exact (returnFromException_reg _ n hne).trans (reg_setReg_other s 14 n _ hne)

end Sys2Proof.Machine
end

section
/-! SUPPORT. The bytes of an access: what a load reads and a store leaves, byte by byte, and the accesses that hardware
splits (20_memory.md rules R71, R76, R77). -/

namespace Sys2Proof.Machine

/-! ### The bytes of a value -/

/-- Where byte `j` of an access of `n` bytes lies in its value: from the low end in little-endian order, from the high
end in big-endian order (20_memory.md rule R71). -/
def lane (be : Bool) (n j : Nat) : Nat := if be then n - 1 - j else j

theorem lane_lt {n j : Nat} (be : Bool) (h : j < n) : lane be n j < n := by
  unfold lane
  split <;> omega

theorem lane_lane {n j : Nat} (be : Bool) (h : j < n) : lane be n (lane be n j) = j := by
  unfold lane
  split <;> omega

theorem bytes_le_four (w : Width) : w.bytes ≤ 4 := by cases w <;> decide

/-- Words with the same four bytes are equal. -/
theorem word_ext_bytes {x y : Word} (h : ∀ k < 4, x.extractLsb' (8 * k) 8 = y.extractLsb' (8 * k) 8) : x = y := by
  have h0 := h 0 (by decide)
  have h1 := h 1 (by decide)
  have h2 := h 2 (by decide)
  have h3 := h 3 (by decide)
  rw [← bytes_append x, ← bytes_append y, h0, h1, h2, h3]

/-- A byte of two values put together is a byte of one of them. -/
theorem append_byte {n : Nat} (hi : BitVec n) (lo : Word) (k : Nat) :
    (hi ++ lo).extractLsb' (8 * k) 8 = if k < 4 then lo.extractLsb' (8 * k) 8 else hi.extractLsb' (8 * (k - 4)) 8 := by
  split
  · exact BitVec.extractLsb'_append_eq_of_add_le (by omega)
  · rw [BitVec.extractLsb'_append_eq_of_le (by omega), Nat.mul_sub]

/-- A byte of a value shifted down by whole bytes is a byte further up. -/
theorem ushiftRight_byte {n : Nat} (x : BitVec n) (d k : Nat) :
    (x >>> (8 * d)).extractLsb' (8 * k) 8 = x.extractLsb' (8 * (d + k)) 8 := by
  ext i hi
  rw [BitVec.getElem_extractLsb', BitVec.getElem_extractLsb', BitVec.getLsbD_ushiftRight, Nat.mul_add, Nat.add_assoc]

/-- The word of four bytes, byte 0 the least significant. -/
def wordOfBytes (b : Nat → Byte) : Word := b 3 ++ b 2 ++ b 1 ++ b 0

theorem wordOfBytes_byte (b : Nat → Byte) {k : Nat} (hk : k < 4) :
    (wordOfBytes b).extractLsb' (8 * k) 8 = b k := by
  have hk : k = 0 ∨ k = 1 ∨ k = 2 ∨ k = 3 := by omega
  rcases hk with rfl | rfl | rfl | rfl
  · exact BitVec.extractLsb'_append_eq_right
  · exact (BitVec.extractLsb'_append_eq_of_le (by decide)).trans BitVec.extractLsb'_append_eq_right
  · exact (BitVec.extractLsb'_append_eq_of_le (by decide)).trans
      ((BitVec.extractLsb'_append_eq_of_le (by decide)).trans BitVec.extractLsb'_append_eq_right)
  · exact (BitVec.extractLsb'_append_eq_of_le (by decide)).trans
      ((BitVec.extractLsb'_append_eq_of_le (by decide)).trans BitVec.extractLsb'_append_eq_left)

theorem getLsbD_lowMask (n k : Nat) : (lowMask n).getLsbD k = (decide (k < n) && decide (k < 32)) := by
  rw [lowMask, BitVec.getLsbD_ofNat, Nat.testBit_two_pow_sub_one, Bool.and_comm]

/-- The low bytes of a value, and zeros above them. -/
theorem lowMask_byte (v : Word) (n : Nat) {k : Nat} (hk : k < 4) :
    (v &&& lowMask (8 * n)).extractLsb' (8 * k) 8 = if k < n then v.extractLsb' (8 * k) 8 else 0 := by
  ext i hi
  have hmask : (lowMask (8 * n)).getLsbD (8 * k + i) = decide (k < n) := by
    rw [getLsbD_lowMask]
    by_cases h : k < n <;> simp [h] <;> omega
  rw [BitVec.getElem_extractLsb', BitVec.getLsbD_and, hmask]
  split <;> simp [*]

/-- A halfword, zero extended. -/
theorem zext_half (x y : Byte) : (x ++ y).setWidth 32 = (0 : Byte) ++ (0 : Byte) ++ x ++ y := by
  ext i hi
  grind

/-- A byte, zero extended. -/
theorem zext_byte (x : Byte) : x.setWidth 32 = (0 : Byte) ++ (0 : Byte) ++ (0 : Byte) ++ x := by
  ext i hi
  grind

/-! ### The bytes of a load and of a store -/

/-- A load is the word of its bytes in memory, each in its lane. -/
theorem load_eq_wordOfBytes (m : Memory) (be : Bool) (a : Word) (w : Width) :
    m.load be a w = wordOfBytes fun k =>
      if k < w.bytes then m.byteAt (a + BitVec.ofNat 32 (lane be w.bytes k)) else 0 := by
  cases w <;> cases be <;> simp [Memory.load, wordOfBytes, Width.bytes, lane, zext_half, zext_byte]

/-- Byte `k` of a load is the byte of memory in its lane, and 0 above the access's size. -/
theorem load_byte (m : Memory) (be : Bool) (a : Word) (w : Width) {k : Nat} (hk : k < 4) :
    (m.load be a w).extractLsb' (8 * k) 8 =
      if k < w.bytes then m.byteAt (a + BitVec.ofNat 32 (lane be w.bytes k)) else 0 := by
  rw [load_eq_wordOfBytes, wordOfBytes_byte _ hk]

/-- A load is zero extended. -/
theorem load_and_lowMask (m : Memory) (be : Bool) (a : Word) (w : Width) :
    m.load be a w &&& lowMask (8 * w.bytes) = m.load be a w := by
  refine word_ext_bytes fun k hk => ?_
  rw [lowMask_byte _ _ hk, load_byte _ _ _ _ hk]
  split <;> rfl

theorem load_lt (m : Memory) (be : Bool) (a : Word) (w : Width) : (m.load be a w).toNat < 2 ^ (8 * w.bytes) := by
  have hmask : (lowMask (8 * w.bytes)).toNat < 2 ^ (8 * w.bytes) := by cases w <;> decide
  rw [← load_and_lowMask, BitVec.toNat_and]
  exact lt_of_le_of_lt Nat.and_le_right hmask

/-- An address that an access covers is that of one of its bytes. -/
theorem covers_iff {w : Width} {a x : Word} : w.covers a x = true ↔ (x - a).toNat < w.bytes := decide_eq_true_iff

theorem offset_toNat {j : Nat} (a : Word) (hj : j < 4) : (a + BitVec.ofNat 32 j - a).toNat = j := by bv_omega

/-- What every byte of memory is after a store. -/
theorem byteAt_store (m : Memory) (be : Bool) (a v x : Word) (w : Width) :
    (m.store be a v w).byteAt x =
      if w.covers a x then v.extractLsb' (8 * lane be w.bytes (x - a).toNat) 8 else m.byteAt x := by
  split
  · rename_i hx
    rw [covers_iff] at hx
    have haddr : a + BitVec.ofNat 32 (x - a).toNat = x := by bv_omega
    cases be with
    | true => simpa only [haddr, lane, if_true] using byteAt_store_big m a v w _ hx
    | false => simpa only [haddr, lane, Bool.false_eq_true, if_false] using byteAt_store_little m a v w _ hx
  · rename_i hx
    exact byteAt_store_other m be a v x w (by simpa using hx)

/-- A load reads back the value whose bytes are in memory. -/
theorem load_of_bytes {m : Memory} {be : Bool} {a v : Word} {w : Width}
    (h : ∀ x, w.covers a x = true → m.byteAt x = v.extractLsb' (8 * lane be w.bytes (x - a).toNat) 8) :
    m.load be a w = v &&& lowMask (8 * w.bytes) := by
  refine word_ext_bytes fun k hk => ?_
  rw [load_byte _ _ _ _ hk, lowMask_byte _ _ hk]
  split
  · rename_i hkw
    have hlane := lane_lt be hkw
    have hoff := offset_toNat a (lt_of_lt_of_le hlane (bytes_le_four w))
    rw [h _ (covers_iff.mpr (by rw [hoff]; exact hlane)), hoff, lane_lane be hkw]
  · rfl

/-- Settles O25: each byte of a load in its lane, and the value of a store read back. -/
theorem memoryByteOrder : Obligations.memory_byte_order := by
  intro m a v x w be
  refine ⟨fun k hk => ?_, load_lt m be a w, load_of_bytes fun y hy => ?_, byteAt_store_other m be a v x w⟩
  · rw [load_byte _ _ _ _ (lt_of_lt_of_le hk (bytes_le_four w)), if_pos hk, lane]
  · rw [byteAt_store, if_pos hy]

/-! ### Addresses with their low bits cleared -/

/-- Clearing the bits of a mask takes away what they hold. -/
theorem and_not_eq_sub (a m : Word) : a &&& ~~~m = a - (a &&& m) := by
  have hdisjoint : (a &&& ~~~m) &&& (a &&& m) = 0 := by ext i hi; grind
  have hsplit : (a &&& ~~~m) ||| (a &&& m) = a := by ext i hi; simp [← Bool.and_or_distrib_left]
  have hadd := BitVec.add_eq_or_of_and_eq_zero _ _ hdisjoint
  rw [hsplit] at hadd
  exact BitVec.eq_sub_iff_add_eq.mpr hadd

/-- The low `k` bits of an address are its remainder. -/
theorem and_lowMask_eq_mod (a : Word) (k : Nat) : a &&& lowMask k = BitVec.ofNat 32 (a.toNat % 2 ^ k) := by
  apply BitVec.eq_of_getLsbD_eq
  intro i hi
  rw [BitVec.getLsbD_and, getLsbD_lowMask, BitVec.getLsbD_ofNat, Nat.testBit_mod_two_pow, BitVec.testBit_toNat]
  simp [hi, Bool.and_comm]

/-- Bits 1:0 cleared: the address of the word that holds a byte. -/
theorem clear_two_bits (a : Word) : a &&& 0xFFFFFFFC = a - BitVec.ofNat 32 (a.toNat % 4) :=
  (and_not_eq_sub a (lowMask 2)).trans (congrArg (a - ·) (and_lowMask_eq_mod a 2))

/-- Bit 0 cleared: the address of the halfword that holds a byte. -/
theorem clear_one_bit (a : Word) : a &&& 0xFFFFFFFE = a - BitVec.ofNat 32 (a.toNat % 2) :=
  (and_not_eq_sub a (lowMask 1)).trans (congrArg (a - ·) (and_lowMask_eq_mod a 1))

@[simp] theorem alignDown_aligned (w : Width) (a : Word) : w.aligned (w.alignDown a) = true := by
  cases w <;> simp only [Width.aligned, Width.alignDown, Width.bytes, beq_iff_eq] <;> bv_omega

/-- Without hardware support a misaligned access that does not trap is the aligned one below it (rule R77). -/
theorem accesses_alignDown {s : State} {a : Word} {w : Width} (sp : Bool) (v : Word) (hmm : s.psrMM = true)
    (hhw : s.cfg.unalignedHw = false) (ha : w.aligned a = false) :
    s.readData a w false sp = s.readData (w.alignDown a) w false sp ∧
      s.writeData a w false sp v = s.writeData (w.alignDown a) w false sp v := by
  rw [readData_aligned _ _ _ _ _ (alignDown_aligned w a), writeData_aligned _ _ _ _ _ _ (alignDown_aligned w a)]
  simp [State.readData, State.writeData, hmm, hhw, ha]

/-- Settles O27: clearing the low bits is aligning down. -/
theorem misalignedAccessAlignedDown : Obligations.misaligned_access_aligned_down := by
  intro s a v sp hmm hhw
  refine ⟨fun ha => ?_, fun ha => ?_⟩
  · rw [clear_one_bit]
    exact accesses_alignDown sp v hmm hhw ha
  · rw [clear_two_bits]
    exact accesses_alignDown sp v hmm hhw ha

/-! ### Accesses that hardware splits -/

theorem readData_split {s : State} {a : Word} {w : Width} (sp : Bool) (hmm : s.psrMM = true)
    (hhw : s.cfg.unalignedHw = true) (ha : w.aligned a = false) : s.readData a w false sp = s.readSplit a w sp := by
  simp [State.readData, ha, hmm, hhw]

theorem writeData_split {s : State} {a : Word} {w : Width} (sp : Bool) (v : Word) (hmm : s.psrMM = true)
    (hhw : s.cfg.unalignedHw = true) (ha : w.aligned a = false) :
    s.writeData a w false sp v = s.writeSplit a w.bytes sp v (writeParts (a.toNat % 4) w) := by
  simp [State.writeData, ha, hmm, hhw]

/-- The byte `j` after the first one of those taken from two words lies in the first word or in the next. -/
theorem spliceWords_byte (be : Bool) (w0 w1 : Word) {off n j : Nat} (hoff : off < 4) (hn : n ≤ 4) (hj : j < n) :
    (spliceWords be w0 w1 off n).extractLsb' (8 * lane be n j) 8 =
      if off + j < 4 then w0.extractLsb' (8 * lane be 4 (off + j)) 8
      else w1.extractLsb' (8 * lane be 4 (off + j - 4)) 8 := by
  have hlane := lane_lt be hj
  have hshift : ∀ (x : BitVec 64) (d : Nat),
      ((x >>> (8 * d)).setWidth 32).extractLsb' (8 * lane be n j) 8 = x.extractLsb' (8 * (d + lane be n j)) 8 := by
    intro x d
    rw [BitVec.extractLsb'_setWidth_of_le (by omega), ushiftRight_byte]
  rw [spliceWords, lowMask_byte _ _ (by omega), if_pos hlane]
  cases be with
  | false => exact (hshift _ off).trans (append_byte w1 w0 (off + j))
  | true =>
    simp only [if_true]
    rw [show 64 - 8 * off - 8 * n = 8 * (8 - off - n) by omega, hshift, append_byte]
    simp only [lane, if_true]
    split
    · rw [if_neg (by omega)]
      congr 2
      omega
    · rw [if_pos (by omega)]
      congr 2
      omega

theorem spliceWords_and_lowMask (be : Bool) (w0 w1 : Word) (off n : Nat) :
    spliceWords be w0 w1 off n &&& lowMask (8 * n) = spliceWords be w0 w1 off n := by
  rw [spliceWords, BitVec.and_assoc, BitVec.and_self]

/-- The byte `j` after the address of a word. -/
theorem load_word_lane (m : Memory) (be : Bool) (a : Word) {j : Nat} (hj : j < 4) :
    (m.load be a .word).extractLsb' (8 * lane be 4 j) 8 = m.byteAt (a + BitVec.ofNat 32 j) := by
  have hlane := lane_lt be hj
  rw [load_byte _ _ _ _ hlane, if_pos (show lane be 4 j < Width.word.bytes from hlane)]
  exact congrArg (fun k => m.byteAt (a + BitVec.ofNat 32 k)) (lane_lane be hj)

/-- The bytes at an address, taken from the word that holds the first one and from the next word. -/
theorem spliceWords_load (m : Memory) (be : Bool) (a w1 : Word) (w : Width)
    (hw1 : 4 < a.toNat % 4 + w.bytes → w1 = m.load be (a - BitVec.ofNat 32 (a.toNat % 4) + 4) .word) :
    spliceWords be (m.load be (a - BitVec.ofNat 32 (a.toNat % 4)) .word) w1 (a.toNat % 4) w.bytes = m.load be a w := by
  rw [← spliceWords_and_lowMask]
  refine (load_of_bytes fun x hx => ?_).symm
  rw [covers_iff] at hx
  have hn := bytes_le_four w
  rw [spliceWords_byte _ _ _ (Nat.mod_lt _ (by decide)) hn hx]
  split
  · rename_i hword
    rw [load_word_lane _ _ _ hword]
    congr 1
    bv_omega
  · rename_i hword
    rw [hw1 (by omega), load_word_lane _ _ _ (by omega)]
    congr 1
    bv_omega

/-- A split read that is allowed gives the bytes at its address (rule R76). -/
theorem readSplit_allowed {s : State} {a : Word} {w : Width} {sp : Bool}
    (hfirst : Allowed s (a - BitVec.ofNat 32 (a.toNat % 4)) .word .read sp)
    (hnext : 4 < a.toNat % 4 + w.bytes → Allowed s (a - BitVec.ofNat 32 (a.toNat % 4) + 4) .word .read sp) :
    s.readSplit a w sp = .ok (s.mem.load s.cfg.bigEndian a w) := by
  have hread : ∀ b, Allowed s b .word .read sp →
      s.readAligned b .word sp = .ok (s.mem.load s.cfg.bigEndian b .word) :=
    fun b hb => (readData_aligned s b .word false sp hb.1).symm.trans (readData_allowed s b .word false sp hb)
  have ⟨_, _, _, _, huncached⟩ := hfirst
  simp only [State.readSplit, hread _ hfirst, afterTransfer_uncached s _ .word .read sp huncached]
  split
  · rw [spliceWords_load _ _ _ _ _ (by omega)]
  · rw [hread _ (hnext (by omega))]
    exact congrArg Except.ok (spliceWords_load _ _ _ _ _ (fun _ => rfl))

/-- Memory after the parts of a split write. -/
def Memory.storeParts (m : Memory) (be : Bool) (a v : Word) (n : Nat) : List (Nat × Width) → Memory
  | [] => m
  | p :: ps => Memory.storeParts (m.store be (a + BitVec.ofNat 32 p.1) (partValue be v n p.1 p.2) p.2) be a v n ps

/-- The part stores the byte `j` after the address of the whole. -/
def partCovers (p : Nat × Width) (j : Nat) : Bool := decide (p.1 ≤ j ∧ j < p.1 + p.2.bytes)

theorem partCovers_iff {p : Nat × Width} {j : Nat} : partCovers p j = true ↔ p.1 ≤ j ∧ j < p.1 + p.2.bytes :=
  decide_eq_true_iff

theorem covers_part {p : Nat × Width} (a x : Word) (hp : p.1 + p.2.bytes ≤ 4) :
    p.2.covers (a + BitVec.ofNat 32 p.1) x = partCovers p (x - a).toNat := by
  rw [Bool.eq_iff_iff, covers_iff, partCovers_iff]
  bv_omega

/-- A part of a value has the value's bytes in their lanes (rule R71). -/
theorem partValue_byte (be : Bool) (v : Word) {n off j : Nat} {w : Width} (hn : n ≤ 4) (hoff : off + w.bytes ≤ n)
    (hlo : off ≤ j) (hhi : j < off + w.bytes) :
    (partValue be v n off w).extractLsb' (8 * lane be w.bytes (j - off)) 8 = v.extractLsb' (8 * lane be n j) 8 := by
  cases be <;> simp only [partValue, lane, Bool.false_eq_true, if_true, if_false, ushiftRight_byte] <;> congr 2 <;>
    omega

/-- What every byte of memory is after the parts of a split write. -/
theorem byteAt_storeParts (be : Bool) (a v x : Word) {n : Nat} (hn : n ≤ 4) (ps : List (Nat × Width)) (m : Memory)
    (hps : ∀ p ∈ ps, p.1 + p.2.bytes ≤ n) :
    (m.storeParts be a v n ps).byteAt x =
      if ps.any (partCovers · (x - a).toNat) then v.extractLsb' (8 * lane be n (x - a).toNat) 8 else m.byteAt x := by
  induction ps generalizing m with
  | nil => rfl
  | cons p ps ih =>
    obtain ⟨hp, hrest⟩ := List.forall_mem_cons.mp hps
    rw [Memory.storeParts, ih _ hrest, byteAt_store, covers_part a x (by omega), List.any_cons]
    by_cases hc : partCovers p (x - a).toNat = true
    · obtain ⟨hlo, hhi⟩ := partCovers_iff.mp hc
      have hoff : (x - (a + BitVec.ofNat 32 p.1)).toNat = (x - a).toNat - p.1 := by bv_omega
      rw [hoff, partValue_byte be v hn hp hlo hhi, hc, Bool.true_or, if_pos rfl, ite_self]
    · rw [Bool.eq_false_iff.mpr hc]
      rfl

theorem writeAligned_allowed {s : State} {a : Word} {w : Width} {sp : Bool} (v : Word)
    (h : Allowed s a w .write sp) : ∃ held old stale, s.writeAligned a w sp v =
      .ok { s with mem := s.mem.store s.cfg.bigEndian a v w, held, old, stale } := by
  have ⟨haligned, _⟩ := h
  obtain ⟨held, old, stale, e⟩ := writeData_allowed_frame (multi := false) v h
  rw [writeData_aligned _ _ _ _ _ _ haligned, State.writeOnce] at e
  split at e
  · exact absurd (congrArg Prod.snd e) (Option.some_ne_none _)
  · rename_i t ht
    obtain rfl : t = _ := congrArg Prod.fst e
    exact ⟨held, old, stale, ht⟩

/-- The parts of a split write, where each is allowed, store theirs and change nothing else but marks. -/
theorem writeSplit_allowed (a v : Word) (n : Nat) (sp : Bool) (ps : List (Nat × Width)) (s : State)
    (h : ∀ p ∈ ps, Allowed s (a + BitVec.ofNat 32 p.1) p.2 .write sp) :
    ∃ held old stale, s.writeSplit a n sp v ps =
      ({ s with mem := s.mem.storeParts s.cfg.bigEndian a v n ps, held, old, stale }, none) := by
  induction ps generalizing s with
  | nil => exact ⟨_, _, _, rfl⟩
  | cons p ps ih =>
    obtain ⟨hp, hrest⟩ := List.forall_mem_cons.mp h
    obtain ⟨held, old, stale, e⟩ := writeAligned_allowed (partValue s.cfg.bigEndian v n p.1 p.2) hp
    obtain ⟨held', old', stale', e'⟩ := ih _ fun q hq => allowed_marks s _ held old stale (hrest q hq)
    exact ⟨held', old', stale', by rw [State.writeSplit, e]; exact e'⟩

/-- The parts of a split write are the bytes of the whole. -/
theorem writeParts_cover {a : Word} {w : Width} (ha : w.aligned a = false) (j : Nat) :
    (writeParts (a.toNat % 4) w).any (partCovers · j) = decide (j < w.bytes) := by
  rw [Bool.eq_iff_iff, decide_eq_true_iff]
  cases w with
  | byte => simp [Width.aligned, Width.bytes, Nat.mod_one] at ha
  | half =>
    simp only [writeParts, List.any_cons, List.any_nil, Bool.or_false, Bool.or_eq_true, partCovers_iff, Width.bytes]
    omega
  | word =>
    rw [writeParts]
    split <;>
    · simp only [List.any_cons, List.any_nil, Bool.or_false, Bool.or_eq_true, partCovers_iff, Width.bytes]
      omega

theorem writeParts_le (off : Nat) (w : Width) : ∀ p ∈ writeParts off w, p.1 + p.2.bytes ≤ w.bytes := by
  unfold writeParts
  repeat' split
  all_goals decide

/-- Settles O28: the words a split read takes hold its bytes, and the parts of a split write are its bytes. -/
theorem misalignedAccessSplit : Obligations.misaligned_access_split := by
  intro s a v w sp hmm hhw ha
  refine ⟨fun hfirst hnext => ?_, fun hparts => ?_⟩
  · rw [clear_two_bits] at hfirst hnext
    exact (readData_split sp hmm hhw ha).trans (readSplit_allowed hfirst hnext)
  · obtain ⟨held, old, stale, e⟩ := writeSplit_allowed a v w.bytes sp _ s hparts
    have hbyte : ∀ x, (s.mem.storeParts s.cfg.bigEndian a v w.bytes (writeParts (a.toNat % 4) w)).byteAt x =
        if w.covers a x then v.extractLsb' (8 * lane s.cfg.bigEndian w.bytes (x - a).toNat) 8 else s.mem.byteAt x :=
      fun x => by
        rw [byteAt_storeParts _ _ _ _ (bytes_le_four w) _ _ (writeParts_le _ w), writeParts_cover ha, Width.covers]
    refine ⟨_, (writeData_split sp v hmm hhw ha).trans e, ⟨load_of_bytes fun x hx => ?_, fun x hx => ?_⟩,
      sameRegs_refl s, rfl, ⟨rfl, rfl⟩, by constructor <;> rfl⟩
    · rw [hbyte, if_pos hx]
    · exact (hbyte x).trans (if_neg (by simp [hx]))

end Sys2Proof.Machine
end

section
/-! SUPPORT. What an instruction does where one of its accesses is not performed: the exceptions of loads, stores and
multi-access instructions (20_memory.md rules R75 to R79, R101 to R104). -/

namespace Sys2Proof.Machine

/-! ### Exceptions where the cache may hold more -/

/-- The cache may hold in the spans what it may hold in the state. -/
def HoldsMore (s : State) (held : List Span) : Prop := ∀ y, inSpans s.held y = true → inSpans held y = true

/-- What the cache may hold is no part of what an exception entry leaves. -/
theorem raise_entered_held {s : State} {held : List Span} {c : Cause} {w : Word} (hheld : HoldsMore s held)
    (hc : c.keepsVector = false) (h : VectorReads s (syncVector s c.vector) s.pc w) :
    ∃ t, State.raise { s with held } c = .next t ∧ Entered s t (syncVector s c.vector) s.pc w := by
  obtain ⟨t, ht, hepsr, hepc, hS, hvec, hee, hie, hpsr, hpc, hregs, hctl, hmem⟩ :=
    raise_entered { s with held } c w hc (vectorReads_held s held _ _ _ hheld h)
  exact ⟨t, ht, hepsr, hepc, hS, hvec, hee, hie, hpsr, hpc, hregs, { hctl with }, hmem⟩

theorem afterTransfer_holdsMore (s : State) (a : Word) (w : Width) (k : AccessKind) (sp : Bool) :
    ∃ held, s.afterTransfer a w k sp = { s with held } ∧ HoldsMore s held := by
  obtain ⟨held, e⟩ := afterTransfer_frame s a w k sp
  refine ⟨held, e, fun y hy => ?_⟩
  have := afterTransfer_held s a w k sp y hy
  rwa [e] at this

/-- A data read, performed or not, changes what the cache may hold, to more than before, and nothing else. -/
theorem afterRead_holdsMore (s : State) (a : Word) (w : Width) (multi sp : Bool) :
    ∃ held, s.afterRead a w multi sp = { s with held } ∧ HoldsMore s held := by
  have hsame : ∃ held, s = { s with held } ∧ HoldsMore s held := ⟨s.held, rfl, fun _ h => h⟩
  unfold State.afterRead
  split
  · exact hsame
  split
  · exact afterTransfer_holdsMore s a w .read sp
  split
  · exact hsame
  split
  · obtain ⟨h1, e1, g1⟩ := afterTransfer_holdsMore s (a - BitVec.ofNat 32 (a.toNat % 4)) .word .read sp
    simp only [e1]
    split
    · exact ⟨h1, rfl, g1⟩
    split
    · exact ⟨h1, rfl, g1⟩
    · obtain ⟨h2, e2, g2⟩ := afterTransfer_holdsMore { s with held := h1 }
        (a - BitVec.ofNat 32 (a.toNat % 4) + 4) .word .read sp
      exact ⟨h2, e2, fun y hy => g2 y (g1 y hy)⟩
  · exact afterTransfer_holdsMore s (w.alignDown a) w .read sp

/-! ### Loads and stores -/

/-- The result is that of a load or store making the access. -/
def MakesAccess (s : State) (r : Result) (a : Word) (w : Width) (sp : Bool) : AccessKind → Prop
  | .read => ∃ len rz ext, r = s.load len rz a w sp ext
  | .write => ∃ len v, r = s.store len a w sp v
  | .fetch => False

theorem withRegs_two {s : State} {n m : Nat} (k : Result) (hn : s.hasReg n = true) (hm : s.hasReg m = true) :
    s.withRegs [n, m] k = k :=
  withRegs_of_all s _ k (by simp [hn, hm])

theorem withRegs_one {s : State} {n : Nat} (k : Result) (hn : s.hasReg n = true) : s.withRegs [n] k = k :=
  withRegs_of_all s _ k (by simp [hn])

theorem based_makesAccess {s : State} {r : Result} {rz rx off sc : Nat} {w w' : Width} {k k' : AccessKind} {a : Word}
    {sp : Bool} (h : dataAccess.based s rz rx off sc w k = some (a, w', k', sp))
    (hr : s.hasReg rz = true → s.hasReg rx = true → MakesAccess s r (s.baseOffset rx off sc) w (rx == 14) k) :
    MakesAccess s r a w' sp k' := by
  unfold dataAccess.based at h
  split at h
  · rename_i hregs
    obtain ⟨hrz, hrx⟩ := Bool.and_eq_true_iff.mp hregs
    cases h
    exact hr hrz hrx
  · cases h

/-- Executing a load or store whose registers exist makes its access. -/
theorem exec_makesAccess {s : State} {i : Instr} {a : Word} {w : Width} {k : AccessKind} {sp : Bool}
    (h : dataAccess s i = some (a, w, k, sp)) : MakesAccess s (exec i s) a w sp k := by
  unfold dataAccess at h
  split at h
  case h_17 | h_18 =>
    split at h
    · rename_i hrz
      cases h
      exact ⟨_, _, _, withRegs_one _ hrz⟩
    · cases h
  case h_8 => exact based_makesAccess h fun hrz _ => ⟨_, _, _, withRegs_one _ hrz⟩
  case h_15 => exact based_makesAccess h fun hrz _ => ⟨_, _, withRegs_one _ hrz⟩
  case h_19 => cases h
  case h_1 | h_2 | h_3 | h_4 | h_5 | h_6 | h_7 | h_9 =>
    exact based_makesAccess h fun hrz hrx => ⟨_, _, _, withRegs_two _ hrz hrx⟩
  case h_10 | h_11 | h_12 | h_13 | h_14 | h_16 =>
    exact based_makesAccess h fun hrz hrx => ⟨_, _, withRegs_two _ hrz hrx⟩

/-- The access of a load or store is not performed, and why; nothing has changed. -/
def Stops (s : State) (a : Word) (w : Width) (sp : Bool) (e : Abort) : AccessKind → Prop
  | .read => s.readData a w false sp = .error e
  | .write => ∀ v, s.writeData a w false sp v = (s, some e)
  | .fetch => False

/-- A load or store whose access is not performed goes no further. -/
theorem exec_stops {s : State} {i : Instr} {a : Word} {w : Width} {k : AccessKind} {sp : Bool} {e : Abort}
    (h : dataAccess s i = some (a, w, k, sp)) (hstop : Stops s a w sp e k) :
    ∃ held, exec i s = State.abort { s with held } e ∧ HoldsMore s held := by
  have hacc := exec_makesAccess h
  cases k with
  | read =>
    obtain ⟨len, rz, ext, he⟩ := hacc
    obtain ⟨held, hafter, hheld⟩ := afterRead_holdsMore s a w false sp
    exact ⟨held, by rw [he, State.load, hafter, show s.readData a w false sp = .error e from hstop], hheld⟩
  | write =>
    obtain ⟨len, v, he⟩ := hacc
    exact ⟨s.held, by rw [he, State.store, hstop v], fun _ hy => hy⟩
  | fetch => exact hstop.elim

/-- A load or store whose access raises an exception takes it. -/
theorem traps_of_stops {s : State} {i : Instr} {a : Word} {w : Width} {k : AccessKind} {sp : Bool} {c : Cause}
    (h : dataAccess s i = some (a, w, k, sp)) (hc : c.keepsVector = false) (hstop : Stops s a w sp (.raise c) k) :
    Traps i s c.vector := by
  intro v hv
  obtain ⟨held, he, hheld⟩ := exec_stops h hstop
  obtain ⟨t, ht, hentered⟩ := raise_entered_held hheld hc hv
  exact ⟨t, he.trans ht, hentered⟩

/-- A load or store whose access has no meaning is refused. -/
theorem refused_of_stops {s : State} {i : Instr} {a : Word} {w : Width} {k : AccessKind} {sp : Bool} {r : Refusal}
    (h : dataAccess s i = some (a, w, k, sp)) (hstop : Stops s a w sp (.refuse r) k) : exec i s = .refused r := by
  obtain ⟨held, he, _⟩ := exec_stops h hstop
  exact he

/-- Only data is accessed. -/
theorem dataAccess_kind {s : State} {i : Instr} {a : Word} {w : Width} {k : AccessKind} {sp : Bool}
    (h : dataAccess s i = some (a, w, k, sp)) : k ≠ .fetch := by
  rintro rfl
  exact exec_makesAccess h

/-! ### Misaligned accesses -/

theorem readData_misaligned {s : State} {a : Word} {w : Width} {multi : Bool} (sp : Bool) (ha : w.aligned a = false)
    (hm : multi = true ∨ s.psrMM = false) : s.readData a w multi sp = .error (.raise .misaligned) := by
  rcases hm with hm | hm <;> simp [State.readData, ha, hm]

theorem writeData_misaligned {s : State} {a : Word} {w : Width} {multi : Bool} (sp : Bool) (v : Word)
    (ha : w.aligned a = false) (hm : multi = true ∨ s.psrMM = false) :
    s.writeData a w multi sp v = (s, some (.raise .misaligned)) := by
  rcases hm with hm | hm <;> simp [State.writeData, ha, hm]

theorem afterRead_misaligned {s : State} {a : Word} {w : Width} {multi : Bool} (sp : Bool) (ha : w.aligned a = false)
    (hm : multi = true ∨ s.psrMM = false) : s.afterRead a w multi sp = s := by
  rcases hm with hm | hm <;> simp [State.afterRead, ha, hm]

theorem stops_misaligned {s : State} {a : Word} {w : Width} {k : AccessKind} (sp : Bool) (hk : k ≠ .fetch)
    (ha : w.aligned a = false) (hm : s.psrMM = false) : Stops s a w sp (.raise .misaligned) k := by
  cases k with
  | read => exact readData_misaligned sp ha (.inr hm)
  | write => exact fun v => writeData_misaligned sp v ha (.inr hm)
  | fetch => exact hk rfl

/-- An instruction that raises an exception takes it. -/
theorem traps_of_raise {s : State} {i : Instr} {c : Cause} (hc : c.keepsVector = false) (h : exec i s = s.raise c) :
    Traps i s c.vector := by
  intro w hw
  obtain ⟨t, ht, hentered⟩ := raise_entered s c w hc hw
  exact ⟨t, h.trans ht, hentered⟩

/-- An address a multiple of the access size below another is aligned as that one is. -/
theorem aligned_sub {w : Width} {n : Nat} (a : Word) (hn : n % w.bytes = 0) :
    w.aligned (a - BitVec.ofNat 32 n) = w.aligned a := by
  cases w <;> simp only [Width.aligned, Width.bytes] at * <;> congr 1 <;> bv_omega

theorem bctPush_misaligned {s : State} {rz : Nat} {w : Width} (hb : s.cfg.bct = true) (hbm : s.psrBM = true)
    (hr : s.hasReg rz = true) (hm : s.psrMM = false) (ha : w.aligned s.bsp = false)
    (hroom : s.bsp.toNat + w.bytes ≤ s.top.toNat) : s.bctPush rz w = s.raise .misaligned := by
  rw [State.bctPush, hb, requires_configured, withRegs_one _ hr, if_neg (by simp [hbm]), if_neg (by omega),
    writeData_misaligned _ _ ha (.inr hm)]
  rfl

theorem bctPop_misaligned {s : State} {rz : Nat} {w : Width} (hb : s.cfg.bct = true) (hbm : s.psrBM = true)
    (hr : s.hasReg rz = true) (hm : s.psrMM = false) (ha : w.aligned s.bsp = false)
    (hroom : s.fpB.toNat + w.bytes ≤ s.bsp.toNat) : s.bctPop rz w = s.raise .misaligned := by
  have ha' : w.aligned (s.bsp - BitVec.ofNat 32 w.bytes) = false := (aligned_sub _ (Nat.mod_self _)).trans ha
  rw [State.bctPop, hb, requires_configured, withRegs_one _ hr, if_neg (by simp [hbm]), if_neg (by omega)]
  simp only [readData_misaligned _ ha' (.inr hm), afterRead_misaligned _ ha' (.inr hm)]
  rfl

/-- Settles O26: the access of a load or store, and BPUSH and BPOP by themselves. -/
theorem misalignedAccessTraps : Obligations.misaligned_access_traps := by
  intro s i a w k sp rz hm
  have traps : ∀ {j : Instr}, exec j s = s.raise .misaligned → Traps j s 1 := traps_of_raise (c := .misaligned) rfl
  refine ⟨fun h ha => ?_, fun hb hbm hr => ⟨fun ha hroom => traps ?_, fun ha hroom => traps ?_,
    fun ha hroom => traps ?_, fun ha hroom => traps ?_⟩⟩
  · exact traps_of_stops (c := .misaligned) h rfl (stops_misaligned sp (dataAccess_kind h) ha hm)
  · exact bctPush_misaligned hb hbm hr hm ha hroom
  · exact bctPush_misaligned hb hbm hr hm ha hroom
  · exact bctPop_misaligned hb hbm hr hm ha hroom
  · exact bctPop_misaligned hb hbm hr hm ha hroom

/-! ### Refused accesses -/

/-- An access that the platform answers with ERROR finds nothing there, or what refuses it. -/
theorem slave_error {s : State} {a : Word} {k : AccessKind} {cached : Bool}
    (h : s.slave k cached a = none ∨ s.slave k cached a = some .error) : (s.slave k cached a).getD .error = .error := by
  rcases h with h | h <;> rw [h] <;> rfl

theorem busRead_answeredError {s : State} {a : Word} {w : Width} {k : AccessKind} {sp : Bool} (hk : k ≠ .write)
    (h : AnsweredError s a w k sp) : s.busRead a w k = .error (.raise .accessError) := by
  obtain ⟨_, htcip, cached, hcached, hmiss, hslave⟩ := h
  simp only [State.busRead, htcip, Bool.false_eq_true, if_false, hcached, cacheRead_miss s a w k cached (hmiss hk),
    State.platformRead, slave_error hslave, State.answerRead]

/-- A refused read: the core's checks refuse it, or its transfer does. -/
theorem read_refused_cases {s : State} {a : Word} {w : Width} {k : AccessKind} {sp : Bool} (hk : k ≠ .write)
    (h : AccessRefused s a w k sp) : s.checkAccess a w k sp = .error (.raise .accessError) ∨
      s.checkAccess a w k sp = .ok () ∧ s.busRead a w k = .error (.raise .accessError) :=
  h.imp_right fun herr => ⟨herr.left, busRead_answeredError hk herr⟩

theorem readAligned_refused {s : State} {a : Word} {w : Width} {sp : Bool} (h : AccessRefused s a w .read sp) :
    s.readAligned a w sp = .error (.raise .accessError) := by
  rcases read_refused_cases (by decide) h with hcheck | ⟨hcheck, hbus⟩
  · rw [State.readAligned, hcheck]
  · rw [State.readAligned, hcheck, hbus]

theorem fetchRead_refused {s : State} {a : Word} {w : Width} (h : AccessRefused s a w .fetch false) :
    s.fetchRead a w = .error (.raise .accessError) := by
  rcases read_refused_cases (by decide) h with hcheck | ⟨hcheck, hbus⟩
  · rw [State.fetchRead, hcheck]
  · rw [State.fetchRead, hcheck, hbus]

theorem writeAligned_refused {s : State} {a : Word} {w : Width} {sp : Bool} (v : Word)
    (h : AccessRefused s a w .write sp) : s.writeAligned a w sp v = .error (.raise .accessError) := by
  rcases h with h | ⟨hcheck, htcip, cached, hcached, _, hslave⟩
  · rw [State.writeAligned, h]
  · simp only [State.writeAligned, hcheck, State.busWrite, htcip, Bool.false_eq_true, if_false, hcached,
      slave_error hslave, State.answerWrite]

/-- What stops an aligned access: its checks, or its transfer. -/
theorem stops_aligned {s : State} {a : Word} {w : Width} {k : AccessKind} {sp : Bool} {e : Abort} (hk : k ≠ .fetch)
    (ha : w.aligned a = true) (hread : k = .read → s.readAligned a w sp = .error e)
    (hwrite : k = .write → ∀ v, s.writeAligned a w sp v = .error e) : Stops s a w sp e k := by
  cases k with
  | read => exact (readData_aligned _ _ _ _ _ ha).trans (hread rfl)
  | write => exact fun v => by rw [writeData_aligned _ _ _ _ _ _ ha, State.writeOnce, hwrite rfl]
  | fetch => exact hk rfl

/-- Settles O29: a refused access raises the access error whichever way it is refused. -/
theorem refusedAccessTraps : Obligations.refused_access_traps := by
  intro s i a w k sp h ha href
  refine traps_of_stops (c := .accessError) h rfl (stops_aligned (dataAccess_kind h) ha ?_ ?_)
  · rintro rfl
    exact readAligned_refused href
  · rintro rfl
    exact fun v => writeAligned_refused v href

/-- R14's bounds are checked first (20_memory.md rule R78). -/
theorem checkAccess_guardFails {s : State} {a : Word} {w : Width} (k : AccessKind) (h : s.guardFails a w.bytes = true) :
    s.checkAccess a w k true = .error (.raise .accessError) := by
  simp [State.checkAccess, h]

/-- Settles O30: an access outside the bounds that guard it is one that the checks refuse. -/
theorem stackGuardTraps : Obligations.stack_guard_traps := by
  intro s i a lo hi w k h ha hg hsge hbounds hout
  have hguard : s.guardBounds = some (lo, hi) := by
    unfold State.guardBounds
    rcases hbounds with ⟨hbank, rfl, rfl⟩ | ⟨hbank, hsgp, rfl, rfl⟩ <;> simp [*]
  have hfails : s.guardFails a w.bytes = true := by
    rw [State.guardFails, hguard]
    simpa using hout
  exact refusedAccessTraps s i a w k true h ha (.inl (checkAccess_guardFails k hfails))

/-! ### Multi-access instructions -/

/-- Transfers whose first address is not word aligned are not made, whatever PSR.MM is (20_memory.md rule R79). -/
theorem multi_misaligned {s : State} {sp : Bool} {x : Xfer} {xs : List Xfer} (k : State → Result)
    (ha : Width.word.aligned x.addr = false) : s.multi sp (x :: xs) k = s.raise .misaligned := by
  have hfirst : s.transfer sp [] (x :: xs) = ⟨s, [], some (.raise .misaligned)⟩ := by
    cases x with
    | load n a => rw [State.transfer, readData_misaligned (a := a) sp ha (.inl rfl)]
    | store v a => rw [State.transfer, writeData_misaligned (a := a) sp v ha (.inl rfl)]
  rw [State.multi, hfirst]
  rfl

theorem mem_rangeRegs {ry n m : Nat} : m ∈ rangeRegs ry n ↔ ry ≤ m ∧ m ≤ ry + n := by
  rw [rangeRegs, List.mem_range'_1]
  omega

theorem rangeRegs_exist {s : State} {ry rx n : Nat} (hall : ∀ k ≤ n, s.hasReg (ry + k) = true)
    (hrx : s.hasReg rx = true) : ∀ m ∈ rx :: rangeRegs ry n, s.hasReg m = true := by
  refine List.forall_mem_cons.mpr ⟨hrx, fun m hm => ?_⟩
  obtain ⟨hlo, hhi⟩ := mem_rangeRegs.mp hm
  have h := hall (m - ry) (by omega)
  rwa [Nat.add_sub_cancel' hlo] at h

theorem loadRange_misaligned {s : State} {ry rx n : Nat} (hall : ∀ k ≤ n, s.hasReg (ry + k) = true)
    (hrx : s.hasReg rx = true) (ha : Width.word.aligned (s.reg rx) = false) (hout : rx < ry ∨ ry + n < rx) :
    s.loadRange ry rx n = s.raise .misaligned := by
  have hcontains : ¬ (rangeRegs ry n).contains rx = true := by
    rw [List.contains_iff_mem, mem_rangeRegs]
    omega
  rw [State.loadRange, withRegs_of_all _ _ _ (rangeRegs_exist hall hrx), if_neg hcontains, State.ldmXfers,
    rangeRegs, List.range'_succ, loadXfers]
  exact multi_misaligned _ ha

theorem storeRange_misaligned {s : State} {ry rx n : Nat} (hall : ∀ k ≤ n, s.hasReg (ry + k) = true)
    (hrx : s.hasReg rx = true) (ha : Width.word.aligned (s.reg rx) = false) :
    s.storeRange ry rx n = s.raise .misaligned := by
  rw [State.storeRange, withRegs_of_all _ _ _ (rangeRegs_exist hall hrx), State.stmXfers, rangeRegs, List.range'_succ,
    State.storeXfers]
  exact multi_misaligned _ ha

theorem pushRegs_misaligned {s : State} {regs : List Nat} (hne : regs ≠ []) (ha : Width.word.aligned s.sp = false) :
    s.pushRegs regs = s.raise .misaligned := by
  obtain ⟨r, rs, hrev⟩ := List.exists_cons_of_ne_nil (List.reverse_ne_nil_iff.mpr hne)
  rw [State.pushRegs, State.pushListXfers, hrev, State.pushXfers]
  exact multi_misaligned _ ((aligned_sub (n := 4) _ rfl).trans ha)

theorem listRegs_exist {s : State} {r15 list1 : Nat} (h : list1 ≤ 8) : ∀ m ∈ listRegs r15 list1, s.hasReg m = true := by
  intro m hm
  refine hasReg_of_lt ?_
  rcases List.mem_append.mp hm with hm | hm
  · rw [List.mem_range'_1] at hm
    omega
  · split at hm
    · rw [List.mem_singleton] at hm
      omega
    · cases hm

theorem listRegs_ne_nil {r15 list1 : Nat} (h : list1 ≠ 0 ∨ r15 = 1) : listRegs r15 list1 ≠ [] := by
  rcases h with h | h <;> simp [listRegs, h]

/-- The pops of a list that is not empty. -/
theorem multi_pops_misaligned {s : State} {regs : List Nat} (k : State → Result) (hne : regs ≠ [])
    (ha : Width.word.aligned s.sp = false) : s.multi true (s.popListXfers regs) k = s.raise .misaligned := by
  obtain ⟨r, rs, rfl⟩ := List.exists_cons_of_ne_nil hne
  exact multi_misaligned k ha

/-- Settles O36: the first transfer of each. -/
theorem multiMisalignedTraps : Obligations.multi_misaligned_traps := by
  intro s ry rx n r15 list1
  have traps : ∀ {j : Instr}, exec j s = s.raise .misaligned → Traps j s 1 := traps_of_raise (c := .misaligned) rfl
  refine ⟨fun hall hrx ha => ⟨fun hout => traps (loadRange_misaligned hall hrx ha hout),
      traps (storeRange_misaligned hall hrx ha), fun hout => traps ?_, traps ?_⟩,
    fun ha => ⟨fun hl hne => ⟨traps ?_, traps ?_⟩, fun hn => ⟨traps ?_, traps ?_, fun hs => ⟨traps ?_, traps ?_⟩⟩⟩⟩
  · exact loadRange_misaligned (fun k hk => hasReg_of_lt (by omega)) hrx ha hout
  · exact storeRange_misaligned (fun k hk => hasReg_of_lt (by omega)) hrx ha
  · rw [exec, execPush16, withRegs_of_all _ _ _ (listRegs_exist hl)]
    exact pushRegs_misaligned (listRegs_ne_nil hne) ha
  · rw [exec, execPop16, withRegs_of_all _ _ _ (listRegs_exist hl)]
    exact multi_pops_misaligned _ (listRegs_ne_nil hne) ha
  · rw [exec, execIpush16, hn, requires_configured]
    exact pushRegs_misaligned (by decide) ha
  · rw [exec, execIpop16, hn, requires_configured]
    exact multi_pops_misaligned _ (by decide) ha
  · rw [exec, execNie16, hn, requires_configured, privileged_supervisor _ _ hs]
    exact multi_misaligned _ ((aligned_sub (n := 4) _ rfl).trans ha)
  · rw [exec, execNir16, hn, requires_configured, privileged_supervisor _ _ hs, readData_misaligned true ha (.inl rfl)]
    rfl

end Sys2Proof.Machine
end

section
/-! SUPPORT. The regions that a memory protection or cache register describes, and the region that decides an access
(20_memory.md rules R94 to R96, R112). -/

namespace Sys2Proof.Machine

/-! ### Region words -/

theorem regionEnabled_iff (p : Word) : regionEnabled p = true ↔ RegionOn p := by
  rw [regionEnabled, RegionOn, BitVec.getLsbD, Nat.testBit_zero, decide_eq_true_iff]

theorem regionSize_eq (p : Word) : regionSize p = p.toNat / 2 % 32 := by
  rw [regionSize, BitVec.extractLsb'_toNat, Nat.shiftRight_eq_div_pow]

/-- A region whose base is a multiple of its size holds the addresses from its base on. -/
theorem regionHolds_iff {p : Word} {low : Nat} (a : Word) (h : regionAligned p low = true) :
    regionHolds p low a = true ↔
      regionBase p low ≤ a.toNat ∧ a.toNat < regionBase p low + 2 ^ (regionSize p + 1) := by
  obtain ⟨c, hc⟩ := Nat.dvd_of_mod_eq_zero (beq_iff_eq.mp h)
  have hpos : 0 < 2 ^ (regionSize p + 1) := Nat.two_pow_pos _
  rw [regionHolds, beq_iff_eq, hc, Nat.mul_div_cancel_left _ hpos, Nat.div_eq_iff hpos, Nat.mul_comm c]
  omega

/-! ### The region that controls an address -/

section
variable {s : State} {a : Word} {n : Nat}

/-- A legal region passes the checks of the memory protection unit. -/
theorem regionLegal_checks {p : Word} (h : RegionLegal p) :
    (regionSize p < 6 || !regionAligned p 7) = false := by
  obtain ⟨hsize, hbase⟩ := h
  have haligned : regionAligned p 7 = true := beq_iff_eq.mpr (by rw [regionSize_eq]; exact hbase)
  simp [haligned, regionSize_eq, hsize]

theorem regionHolds_legal {p : Word} (h : RegionLegal p) : regionHolds p 7 a = true ↔ InRegion p a := by
  obtain ⟨hsize, hbase⟩ := h
  have haligned : regionAligned p 7 = true := beq_iff_eq.mpr (by rw [regionSize_eq]; exact hbase)
  rw [regionHolds_iff a haligned, regionSize_eq]
  rfl

theorem mpuRegion_take (hon : RegionOn (s.region n)) (hlegal : RegionLegal (s.region n))
    (hin : InRegion (s.region n) a) : s.mpuRegion a (n + 1) = .ok (some n) := by
  rw [State.mpuRegion]
  simp [(regionEnabled_iff _).mpr hon, regionLegal_checks hlegal, (regionHolds_legal hlegal).mpr hin]

theorem mpuRegion_skip (hlegal : RegionOn (s.region n) → RegionLegal (s.region n))
    (hout : RegionOn (s.region n) → ¬ InRegion (s.region n) a) : s.mpuRegion a (n + 1) = s.mpuRegion a n := by
  rw [State.mpuRegion]
  by_cases hon : RegionOn (s.region n)
  · have hholds : ¬ regionHolds (s.region n) 7 a = true := (regionHolds_legal (hlegal hon)).not.mpr (hout hon)
    simp [regionLegal_checks (hlegal hon), hholds]
  · simp [Bool.eq_false_iff.mpr ((regionEnabled_iff _).not.mpr hon)]

/-- No enabled region holds the address. -/
theorem mpuRegion_none (hlegal : ∀ i < n, RegionOn (s.region i) → RegionLegal (s.region i))
    (hout : ∀ i < n, RegionOn (s.region i) → ¬ InRegion (s.region i) a) : s.mpuRegion a n = .ok none := by
  induction n with
  | zero => rfl
  | succ n ih =>
    rw [mpuRegion_skip (hlegal n n.lt_succ_self) (hout n n.lt_succ_self)]
    exact ih (fun i hi => hlegal i (Nat.lt_succ_of_lt hi)) fun i hi => hout i (Nat.lt_succ_of_lt hi)

/-- The highest enabled region that holds the address controls it (rule R95). -/
theorem mpuRegion_some {i : Nat} (hlegal : ∀ i < n, RegionOn (s.region i) → RegionLegal (s.region i)) (hi : i < n)
    (hon : RegionOn (s.region i)) (hin : InRegion (s.region i) a)
    (habove : ∀ j, i < j → j < n → RegionOn (s.region j) → ¬ InRegion (s.region j) a) :
    s.mpuRegion a n = .ok (some i) := by
  induction n with
  | zero => exact absurd hi (Nat.not_lt_zero i)
  | succ n ih =>
    by_cases hin' : i = n
    · subst hin'
      exact mpuRegion_take hon (hlegal i hi hon) hin
    · rw [mpuRegion_skip (hlegal n n.lt_succ_self) (habove n (by omega) n.lt_succ_self)]
      exact ih (fun j hj => hlegal j (Nat.lt_succ_of_lt hj)) (by omega)
        fun j hj hjn => habove j hj (Nat.lt_succ_of_lt hjn)

end

/-- AP of a region is the number in its two bits of CAPR. -/
theorem regionAP_toNat (s : State) (i : Nat) : (s.regionAP i).toNat = s.capr.toNat / 2 ^ (8 + 2 * i) % 4 := by
  rw [State.regionAP, BitVec.extractLsb'_toNat, Nat.shiftRight_eq_div_pow]

/-- The permission table, on the number that AP is (rule R96). -/
theorem regionAllows_iff (s : State) (i : Nat) (k : AccessKind) : s.regionAllows i k = true ↔
    Permitted s.psrS (s.capr.toNat / 2 ^ (8 + 2 * i) % 4) (s.capr.getLsbD i) k := by
  rw [← regionAP_toNat]
  simp only [State.regionAllows, State.regionNX]
  generalize s.regionAP i = ap, s.psrS = supervisor, s.capr.getLsbD i = nx
  cases k with
  | read => revert ap supervisor; simp only [Permitted]; decide
  | write => revert ap supervisor; simp only [Permitted]; decide
  | fetch => revert ap supervisor nx; simp only [Permitted]; decide

/-- Settles O32: the region that controls the address decides by its AP and NX, and without one nothing is allowed. -/
theorem mpuDecidesAccess : Obligations.mpu_decides_access := by
  intro s a k hmp hregions hlegal
  have hon : ¬ (decide (s.cfg.mpuRegions = 0) || decide (s.ccrMp = 0)) = true := by
    simp [hmp, Nat.ne_of_gt hregions]
  refine ⟨fun i ⟨hi, hreg, hin, habove⟩ => ?_, fun hout => ?_⟩
  · rw [State.mpuCheck, if_neg hon, if_neg (not_not.mpr hmp), mpuRegion_some hlegal hi hreg hin habove,
      ← regionAllows_iff]
    exact ⟨fun h => if_pos h, fun h => if_neg h⟩
  · rw [State.mpuCheck, if_neg hon, if_neg (not_not.mpr hmp), mpuRegion_none hlegal hout]

end Sys2Proof.Machine
end

section
/-! SUPPORT. Fetching and decoding: the length of what the decoder reads, parcels that can be fetched, and the step of
an instruction that nothing comes before (30_encoding.md rules R121, R143; 20_memory.md rule R73). -/

namespace Sys2Proof.Machine

/-! ### The length of a decoded instruction -/

/-- What a decoder reads, if anything, has the size. -/
def readsSize (n : Nat) : Except Reject Instr → Bool
  | .ok i => i.size == n
  | .error _ => true

theorem readsSize_ite {n : Nat} {c : Prop} [Decidable c] {x y : Except Reject Instr} (hx : readsSize n x = true)
    (hy : readsSize n y = true) : readsSize n (if c then x else y) = true := by
  split
  · exact hx
  · exact hy

/-- A first parcel that begins a 32-bit instruction is read as one: every choice of the decoder does so (rule R121). -/
theorem readsSize_decode32 (w : Nat) : readsSize 4 (decode32 w) = true := by
  unfold decode32
  repeat' apply readsSize_ite
  all_goals rfl

theorem decode32_size {w : Nat} {i : Instr} (h : decode32 w = .ok i) : i.size = 4 := by
  have hsize := readsSize_decode32 w
  rw [h] at hsize
  exact beq_iff_eq.mp hsize

/-! ### Steps -/

/-- The core takes its own step, and runs the instruction at PC. -/
theorem step_undisturbed {s : State} (h : Undisturbed s) : step s = s.tick.runInstr := by
  obtain ⟨hmoves, hrun, hdp, hirq⟩ := h
  have hnodp : (s.tick.dpPending && s.tick.psrEE) = false := Bool.and_eq_false_iff.mpr hdp
  have hnoirq : s.tick.deliverable = none := by
    unfold State.deliverable
    split
    · rename_i hon
      obtain ⟨hie, hee⟩ := Bool.and_eq_true_iff.mp hon
      rcases hirq with hirq | hirq | hirq
      · exact hirq
      · exact absurd hie (ne_true_of_eq_false hirq)
      · exact absurd hee (ne_true_of_eq_false hirq)
    · rfl
  rw [step, State.stepBody, hmoves]
  simp only [State.coreStep, tick_run, hrun, State.boundary, hnodp, hnoirq, Bool.false_eq_true, if_false]

/-! ### Fetching -/

/-- The number of a parcel that can be fetched. -/
theorem parcel_toNat (s : State) (a : Word) :
    ((s.mem.load s.cfg.bigEndian a .half).setWidth 16).toNat = (s.mem.load s.cfg.bigEndian a .half).toNat := by
  rw [BitVec.toNat_setWidth]
  exact Nat.mod_eq_of_lt (load_lt s.mem s.cfg.bigEndian a .half)

section
variable {s : State} {a : Word} (horder : s.cfg.bigEndian = false ∨ s.cfg.beV2 = true)
include horder

/-- The byte order is one that the model fetches in. -/
theorem fetchOrder_allowed : (s.cfg.bigEndian && !s.cfg.beV2) = false := by
  rcases horder with h | h <;> simp [h]

/-- A parcel that can be fetched is the halfword in memory. -/
theorem fetchParcel_fetchable (h : Fetchable s a) :
    s.fetchParcel a = .ok ((s.mem.load s.cfg.bigEndian a .half).setWidth 16) := by
  obtain ⟨hcheck, htcip, hslave, hcached, hfresh⟩ := h
  have hread : s.fetchRead a .half = .ok (s.mem.load s.cfg.bigEndian a .half) := by
    simp only [State.fetchRead, hcheck, State.busRead, htcip, Bool.false_eq_true, if_false, hcached]
    exact cacheRead_memory s a .half .fetch false hslave nofun
  have hnotstale :
      (!s.cfg.smcCoherent && s.stale.any fun x => x.addr == a.toNat || x.addr == (a + 1).toNat) = false := by
    rcases hfresh with h | h
    · simp [h]
    · simp only [Bool.and_eq_false_iff, List.any_eq_false, Bool.or_eq_true, beq_iff_eq, not_or]
      exact .inr h
  rw [State.fetchParcel, fetchOrder_allowed horder, if_neg Bool.false_ne_true, hread]
  simp only [hnotstale, Bool.false_eq_true, if_false]

theorem fetchParcel_refused (h : AccessRefused s a .half .fetch false) :
    s.fetchParcel a = .error (.raise .accessError) := by
  rw [State.fetchParcel, fetchOrder_allowed horder, if_neg Bool.false_ne_true, fetchRead_refused h]

/-- A long first parcel whose second one cannot be fetched. -/
theorem fetchInstr_second {e : Abort} (h : Fetchable s s.pc)
    (hlong : isLong (s.mem.load s.cfg.bigEndian s.pc .half).toNat = true)
    (hsecond : s.fetchParcel (s.pc + 2) = .error e) : s.fetchInstr = .error e := by
  have ⟨_, _, _, huncached, _⟩ := h
  rw [State.fetchInstr, fetchParcel_fetchable horder h]
  simp only [parcel_toNat, hlong, if_true, afterTransfer_uncached s s.pc .half .fetch false huncached, hsecond]

/-- The parcels of an instruction that can be fetched are the halfwords in memory (rules R73, R121). -/
theorem fetchInstr_fetchable (h : Fetchable s s.pc)
    (hsecond : isLong (s.mem.load s.cfg.bigEndian s.pc .half).toNat = true → Fetchable s (s.pc + 2)) :
    s.fetchInstr = .ok (decodeParcels (s.mem.load s.cfg.bigEndian s.pc .half).toNat
      (if isLong (s.mem.load s.cfg.bigEndian s.pc .half).toNat then
        (s.mem.load s.cfg.bigEndian (s.pc + 2) .half).toNat else 0)) := by
  have ⟨_, _, _, huncached, _⟩ := h
  rw [State.fetchInstr, fetchParcel_fetchable horder h]
  simp only [parcel_toNat]
  split
  · rename_i hlong
    simp only [afterTransfer_uncached s s.pc .half .fetch false huncached, fetchParcel_fetchable horder (hsecond hlong),
      parcel_toNat]
  · rfl

/-- Fetching it leaves the cache as it is. -/
theorem afterFetch_fetchable (h : Fetchable s s.pc)
    (hsecond : isLong (s.mem.load s.cfg.bigEndian s.pc .half).toNat = true → Fetchable s (s.pc + 2)) :
    s.afterFetch = s := by
  have ⟨_, _, _, huncached, _⟩ := h
  refine afterFetch_uncached s huncached fun h0 hparcel hlong => ?_
  rw [fetchParcel_fetchable horder h] at hparcel
  cases hparcel
  rw [parcel_toNat] at hlong
  obtain ⟨_, _, _, huncached2, _⟩ := hsecond hlong
  exact huncached2

end

/-- A little-endian halfword as a number. -/
theorem load_half_toNat (m : Memory) (a : Word) :
    (m.load false a .half).toNat = (m.byteAt a).toNat + 256 * (m.byteAt (a + 1)).toNat := by
  have h0 := (m.byteAt a).isLt
  have h1 := (m.byteAt (a + 1)).isLt
  simp only [Memory.load, Bool.false_eq_true, if_false, BitVec.toNat_setWidth, BitVec.toNat_append]
  rw [← Nat.shiftLeft_add_eq_or_of_lt h0, Nat.shiftLeft_eq]
  omega

/-- The bytes at the PC are the parcels there, little endian (rules R73, R121). -/
theorem decodeBytes_bytesAtPc (s : State) (hle : s.cfg.bigEndian = false) :
    decodeBytes s.bytesAtPc = decodeParcels (s.mem.load s.cfg.bigEndian s.pc .half).toNat
      (if isLong (s.mem.load s.cfg.bigEndian s.pc .half).toNat then
        (s.mem.load s.cfg.bigEndian (s.pc + 2) .half).toNat else 0) := by
  rw [hle, load_half_toNat, load_half_toNat, State.bytesAtPc, decodeBytes, show s.pc + 2 + 1 = s.pc + 3 by bv_omega]
  split <;> simp [*]

/-- Settles O4: the parcels that are fetched are those that the bytes decode by. -/
theorem stepRunsDecodedInstruction : Obligations.step_runs_decoded_instruction := by
  intro s i hle hund hdec _ hfetch hfetch2
  rw [decodeBytes_bytesAtPc s hle] at hdec
  have hsecond : isLong (s.mem.load s.cfg.bigEndian s.pc .half).toNat = true → Fetchable s.tick (s.pc + 2) := by
    intro hlong
    refine hfetch2 ?_
    rw [decodeParcels, if_pos hlong] at hdec
    exact decode32_size hdec
  have hinstr : s.tick.fetchInstr = .ok (.ok i) :=
    (fetchInstr_fetchable (s := s.tick) (.inl hle) hfetch hsecond).trans (congrArg Except.ok hdec)
  have hafter : s.tick.afterFetch = s.tick := afterFetch_fetchable (s := s.tick) (.inl hle) hfetch hsecond
  rw [step_undisturbed hund, State.runInstr, hinstr, hafter]

/-- The exception of a fetched instruction, past what the fetch leaves in the cache. -/
theorem afterFetch_raise {s : State} {c : Cause} {w : Word} (hc : c.keepsVector = false)
    (hw : VectorReads s (syncVector s c.vector) s.pc w) :
    ∃ t, s.afterFetch.raise c = .next t ∧ Entered s t (syncVector s c.vector) s.pc w := by
  obtain ⟨held, e, hheld⟩ := afterFetch_frame s
  rw [e]
  exact raise_entered_held hheld hc hw

/-- Settles O5: a fetch that fails, and a word that decodes to nothing, raise their exception at the instruction. -/
theorem illegalWordTraps : Obligations.illegal_word_traps := by
  intro s w hund
  have hstep := step_undisturbed hund
  refine ⟨fun e hfetch hw => ?_, fun horder hw href => ?_⟩
  · obtain ⟨t, ht, hentered⟩ := afterFetch_raise (c := .illegal) rfl hw
    exact ⟨t, by rw [hstep, State.runInstr, hfetch]; exact ht, hentered⟩
  · have hfetch : s.tick.fetchInstr = .error (.raise .accessError) := by
      rcases href with href | ⟨hfirst, hlong, href⟩
      · rw [State.fetchInstr, tick_pc, fetchParcel_refused (s := s.tick) horder href]
      · exact fetchInstr_second (s := s.tick) horder hfirst hlong (fetchParcel_refused (s := s.tick) horder href)
    obtain ⟨t, ht, hentered⟩ := afterFetch_raise (c := .accessError) rfl hw
    exact ⟨t, by rw [hstep, State.runInstr, hfetch]; exact ht, hentered⟩

end Sys2Proof.Machine
end

section
/-! SUPPORT. The registers of the tightly coupled range: which one an address reaches, and what a load and a store of it
do (20_memory.md rules R86, R107, R109 to R112; 60_exceptions.md rules R458, R464). -/

namespace Sys2Proof.Machine

/-! ### Which register an address reaches -/

/-- The tightly coupled range is the addresses whose top digit is 0xE (rule R86). -/
theorem isTcip_iff (a : Word) : isTcip a = true ↔ 0xE0000000 ≤ a.toNat ∧ a.toNat < 0xF0000000 := by
  have hlt := a.isLt
  rw [isTcip, beq_iff_eq, ← BitVec.toNat_inj, BitVec.extractLsb'_toNat, Nat.shiftRight_eq_div_pow]
  show _ = 14 ↔ _
  omega

/-- A word access at the address is one of the tightly coupled register. -/
def ReachesReg (s : State) (a : Word) (g : TcipReg) : Prop :=
  isTcip a = true ∧ Width.word.aligned a = true ∧ s.tcipReg a .word = .ok (some g)

section
variable {s : State} {a : Word} {w : Width}

theorem reachesReg_of {g : TcipReg} (hreg : s.tcipReg a .word = .ok (some g)) (hlo : 0xE0000000 ≤ a.toNat)
    (hhi : a.toNat < 0xF0000000) (hmod : a.toNat % 4 = 0) : ReachesReg s a g :=
  ⟨(isTcip_iff a).mpr ⟨hlo, hhi⟩, beq_iff_eq.mpr hmod, hreg⟩

theorem reachesReg_cer (hc : s.cfg.cache ≠ .absent) (ha : a = 0xE000F000) : ReachesReg s a .cer := by
  subst ha
  exact ⟨by decide, by decide, by simp [State.tcipReg, hc]⟩

theorem reachesReg_cir (hc : s.cfg.cache ≠ .absent) (ha : a = 0xE000F004) : ReachesReg s a .cir := by
  subst ha
  exact ⟨by decide, by decide, by simp [State.tcipReg, hc]⟩

theorem reachesReg_crcr {n : Nat} (hc : s.cfg.cache ≠ .absent) (hn : n < 4) (hr : n < s.cfg.cacheRegions)
    (ha : a.toNat = 0xE000F008 + 4 * n) : ReachesReg s a (.crcr n) := by
  refine reachesReg_of ?_ (by omega) (by omega) (by omega)
  have hindex : (0xE000F008 + 4 * n - 0xE000F000) / 4 - 2 = n := by omega
  simp only [State.tcipReg, ha, hindex]
  rw [if_pos ⟨hc, by omega, by omega⟩, if_neg (by simp), if_neg (by omega), if_neg (by omega),
    if_pos ⟨by omega, by omega, by omega⟩]

/-- An address of the security extension unit is none of the cache's. -/
theorem tcipReg_seu (hs : s.cfg.security = true) (hlo : 0xE000EFA0 ≤ a.toNat) (hhi : a.toNat < 0xE000EFB0) :
    s.tcipReg a .word =
      if a.toNat / 4 ≠ s.cfg.secrAddr.toNat / 4 ∧ (s.rangeAt a).isSome then .ok none
      else if a = s.cfg.secrAddr then .ok (some .secr) else .ok (some .seuReserved) := by
  rw [State.tcipReg, if_neg (by omega), if_pos ⟨hs, hlo, hhi⟩]
  split
  · rfl
  · rw [if_neg (by simp)]

theorem reachesReg_secr (hs : s.cfg.security = true) (ha : a = s.cfg.secrAddr) (hlo : 0xE000EFA0 ≤ a.toNat)
    (hhi : a.toNat < 0xE000EFB0) (hmod : a.toNat % 4 = 0) : ReachesReg s a .secr := by
  refine reachesReg_of ?_ (by omega) (by omega) hmod
  rw [tcipReg_seu hs hlo hhi, if_neg (by simp [ha]), if_pos ha]

theorem reachesReg_seuReserved (hs : s.cfg.security = true) (ha : a.toNat / 4 ≠ s.cfg.secrAddr.toNat / 4)
    (hrange : s.rangeAt a = none) (hlo : 0xE000EFA0 ≤ a.toNat) (hhi : a.toNat < 0xE000EFB0)
    (hmod : a.toNat % 4 = 0) : ReachesReg s a .seuReserved := by
  refine reachesReg_of ?_ (by omega) (by omega) hmod
  rw [tcipReg_seu hs hlo hhi, if_neg (by simp [hrange]), if_neg (fun h => ha (by rw [h]))]

/-- An access of the cache's range that is no word or reaches no register (92_eei_decisions.md U11). -/
theorem tcipReg_reserved (hc : s.cfg.cache ≠ .absent) (hlo : 0xE000F000 ≤ a.toNat) (hhi : a.toNat < 0xE0010000)
    (h : w ≠ .word ∨ 0xE000F018 ≤ a.toNat ∨ 0xE000F008 + 4 * s.cfg.cacheRegions ≤ a.toNat) :
    s.tcipReg a w = .error (.refuse .reservedTcipAccess) := by
  simp only [State.tcipReg]
  rw [if_pos ⟨hc, hlo, hhi⟩]
  split
  · rfl
  · rename_i hw
    have hout := h.resolve_left hw
    rw [if_neg (by omega), if_neg (by omega), if_neg (by omega)]

/-- No register is outside the two units' ranges. -/
theorem tcipReg_none (hseu : ¬ (0xE000EFA0 ≤ a.toNat ∧ a.toNat < 0xE000EFB0))
    (hcru : ¬ (0xE000F000 ≤ a.toNat ∧ a.toNat < 0xE0010000)) : s.tcipReg a w = .ok none := by
  rw [State.tcipReg, if_neg (fun h => hcru h.2), if_neg (fun h => hseu h.2)]

end

/-! ### Loads and stores of words -/

section
variable {s : State} {a : Word} {rz rx off : Nat}

/-- A word load whose read gives a value completes with it. -/
theorem ld32w_reads {v : Word} (hrz : s.hasReg rz = true) (hrx : s.hasReg rx = true) (ha : a = s.baseOffset rx off 2)
    (h : s.readData a .word false (rx == 14) = .ok v) : Completes (.ld32w rz rx off) s (Writes s · rz v 4) := by
  subst ha
  obtain ⟨held, e⟩ := afterRead_frame s (s.baseOffset rx off 2) .word false (rx == 14)
  refine ⟨_, by rw [exec, execLd32w, withRegs_two _ hrz hrx, load_ok _ _ _ _ _ _ _ _ h, e]; rfl, ?_⟩
  obtain ⟨hreg, hother, hpsr, hsaved, hctl, hmem, hpc⟩ := result_writes { s with held } 4 rz v hrz
  exact ⟨hreg, hother, hpsr, hsaved, { hctl with }, hmem, hpc⟩

/-- A word store whose write is performed completes. -/
theorem st32w_writes {t : State} (hrz : s.hasReg rz = true) (hrx : s.hasReg rx = true) (ha : a = s.baseOffset rx off 2)
    (h : s.writeData a .word false (rx == 14) (s.reg rz) = (t, none)) :
    exec (.st32w rz rx off) s = .next (t.advance 4) := by
  subst ha
  rw [exec, execSt32w, withRegs_two _ hrz hrx, store_ok _ _ _ _ _ _ _ h]

theorem readData_tcip {g : TcipReg} {sp : Bool} (htcip : s.cfg.tcip = true) (h : ReachesReg s a g)
    (hcheck : s.checkAccess a .word .read sp = .ok ()) : s.readData a .word false sp = .ok (s.readTcip g) := by
  obtain ⟨ha, haligned, hreg⟩ := h
  rw [readData_aligned _ _ _ _ _ haligned, State.readAligned, hcheck]
  simp only [State.busRead, htcip, ha, Bool.and_true, if_true, hreg]

theorem writeData_tcip {g : TcipReg} {sp : Bool} (v : Word) (htcip : s.cfg.tcip = true) (h : ReachesReg s a g)
    (hcheck : s.checkAccess a .word .write sp = .ok ()) :
    s.writeData a .word false sp v = (s.writeTcip g v, none) := by
  obtain ⟨ha, haligned, hreg⟩ := h
  rw [writeData_aligned _ _ _ _ _ _ haligned, State.writeOnce, State.writeAligned, hcheck]
  simp only [State.busWrite, htcip, ha, Bool.and_true, if_true, hreg]

end

/-! ### Accesses that are refused -/

section
variable {s : State} {a : Word} {w : Width} {k : AccessKind} {sp : Bool} (hk : k ≠ .fetch) (ha : w.aligned a = true)
  (hcheck : s.checkAccess a w k sp = .ok ()) (htcip : s.cfg.tcip = true) (hrange : isTcip a = true)
include hk ha hcheck htcip hrange

/-- An access that no rule describes is not performed. -/
theorem stops_tcipReg {e : Abort} (hreg : s.tcipReg a w = .error e) : Stops s a w sp e k := by
  refine stops_aligned hk ha ?_ ?_
  · rintro rfl
    simp only [State.readAligned, hcheck, State.busRead, htcip, hrange, Bool.and_true, if_true, hreg]
  · rintro rfl
    simp only [State.writeAligned, hcheck, State.busWrite, htcip, hrange, Bool.and_true, if_true, hreg, implies_true]

/-- Nor is one that reaches neither a register nor a device. -/
theorem stops_tcipDevice (hreg : s.tcipReg a w = .ok none) (hslave : s.slave k false a = none) :
    Stops s a w sp (.refuse .tcipDevice) k := by
  refine stops_aligned hk ha ?_ ?_
  · rintro rfl
    simp only [State.readAligned, hcheck, State.busRead, htcip, hrange, Bool.and_true, if_true, hreg, hslave]
  · rintro rfl
    simp only [State.writeAligned, hcheck, State.busWrite, htcip, hrange, Bool.and_true, if_true, hreg, hslave,
      implies_true]

end

/-! ### Invalidation -/

/-- After an invalidation nothing in the span is merely stored to (rule R107). -/
theorem invalidateStale_stage {s : State} {y : Span} {x : Stale} (hx : x ∈ s.invalidateStale y) (hlo : y.lo ≤ x.addr)
    (hhi : x.addr < y.hi) : x.stage ≠ .stored := by
  obtain ⟨z, _, rfl⟩ := List.mem_map.mp hx
  split
  · exact nofun
  · rename_i hz
    rw [if_neg hz] at hlo hhi
    exact fun hstored => hz ⟨hstored, hlo, hhi⟩

/-- An invalidation changes no mark outside its span. -/
theorem mem_invalidateStale_outside {s : State} {y : Span} {x : Stale} (h : ¬ (y.lo ≤ x.addr ∧ x.addr < y.hi)) :
    x ∈ s.invalidateStale y ↔ x ∈ s.stale := by
  refine List.mem_map.trans ⟨?_, fun hx => ⟨x, hx, if_neg fun hc => h hc.2⟩⟩
  rintro ⟨z, hz, rfl⟩
  split
  · rename_i hc
    rw [if_pos hc] at h
    exact absurd hc.2 h
  · exact hz

/-- What INV_ONE leaves: nothing of its line, and all else (rule R111). -/
theorem invalidateLine_spans (s : State) (v : Word) (k : Nat) :
    (k / 2 ^ s.cfg.cirInvAddrLsb = v.toNat / 2 ^ s.cfg.cirInvAddrLsb →
      inSpans (s.invalidateLine (s.lineOf v)).held k = false ∧ inSpans (s.invalidateLine (s.lineOf v)).old k = false ∧
        ∀ x ∈ (s.invalidateLine (s.lineOf v)).stale, x.addr = k → x.stage ≠ .stored) ∧
    (k / 2 ^ s.cfg.cirInvAddrLsb ≠ v.toNat / 2 ^ s.cfg.cirInvAddrLsb →
      inSpans (s.invalidateLine (s.lineOf v)).held k = inSpans s.held k ∧
        inSpans (s.invalidateLine (s.lineOf v)).old k = inSpans s.old k ∧
        ∀ x : Stale, x.addr = k → (x ∈ (s.invalidateLine (s.lineOf v)).stale ↔ x ∈ s.stale)) := by
  have hline := lineOf_holds s v k
  have hheld := inSpans_flatMap_without s.held (s.lineOf v) k
  have hold := inSpans_flatMap_without s.old (s.lineOf v) k
  refine ⟨fun hk => ?_, fun hk => ?_⟩
  · obtain ⟨hlo, hhi⟩ := hline.mpr hk
    refine ⟨hheld.trans (by simp [hlo, hhi]), hold.trans (by simp [hlo, hhi]), ?_⟩
    rintro x hx rfl
    exact invalidateStale_stage hx hlo hhi
  · have hout := mt hline.mp hk
    have hnot : (decide ((s.lineOf v).lo ≤ k) && decide (k < (s.lineOf v).hi)) = false := by
      rw [Bool.eq_false_iff]
      simpa using hout
    refine ⟨hheld.trans (by simp [hnot]), hold.trans (by simp [hnot]), ?_⟩
    rintro x rfl
    exact mem_invalidateStale_outside hout

/-! ### The registers' statement -/

/-- In user mode the range is closed to every access (92_eei_decisions.md D13). -/
theorem checkAccess_user {s : State} {a : Word} (w : Width) (k : AccessKind) (sp : Bool) (hs : s.psrS = false)
    (ha : isTcip a = true) : s.checkAccess a w k sp = .error (.raise .accessError) := by
  rw [State.checkAccess, hs, ha]
  split <;> rfl

theorem readTcip_crcr (s : State) (n : Fin 4) : s.readTcip (.crcr n) = s.crcr[n] := by
  simp [State.readTcip]

theorem writeTcip_crcr (s : State) (n : Fin 4) (v : Word) :
    s.writeTcip (.crcr n) v = { s with crcr := s.crcr.set n (v &&& 0xFFFFFC3F) } := by
  simp [State.writeTcip, Vector.setIfInBounds, Vector.set, Array.setIfInBounds, crcrMask]

/-- Settles O31: each address reaches its register, and a load and a store of it do what reading and writing it does. -/
theorem tightlyCoupledRegisters : Obligations.tightly_coupled_registers := by
  intro s i a v w k sp rz rx off
  refine ⟨fun h ha hs hlo hhi => ?_, fun htcip hs hrz hrx hbase hv => ⟨fun hcheck => ?_, fun hcheck => ?_⟩,
    fun htcip hs h ha hcheck => ⟨fun hc hlo hhi hbad => ?_, fun hlo hhi hseu hcru hslave => ?_⟩⟩
  · exact refusedAccessTraps s i a w k sp h ha
      (.inl (checkAccess_user w k sp hs ((isTcip_iff a).mpr ⟨hlo, hhi⟩)))
  · have load : ∀ {g}, ReachesReg s a g → Completes (.ld32w rz rx off) s (Writes s · rz (s.readTcip g) 4) :=
      fun hreg => ld32w_reads hrz hrx hbase (readData_tcip htcip hreg hcheck)
    refine ⟨fun hc ha => load (reachesReg_cer hc ha), fun hc ha => ⟨_, load (reachesReg_cir hc ha), fun hw => ?_⟩,
      fun hc n hn ha => ?_, fun hsec ha hlo hhi hmod => load (reachesReg_secr hsec ha hlo hhi hmod),
      fun hsec ha hrange hlo hhi hmod => load (reachesReg_seuReserved hsec ha hrange hlo hhi hmod)⟩
    · exact if_neg (by simp [hw])
    · rw [← readTcip_crcr]
      exact load (reachesReg_crcr hc n.isLt hn ha)
  · have store : ∀ {g}, ReachesReg s a g → exec (.st32w rz rx off) s = .next ((s.writeTcip g v).advance 4) :=
      fun hreg => st32w_writes hrz hrx hbase (hv ▸ writeData_tcip v htcip hreg hcheck)
    have storeCir (hc : s.cfg.cache ≠ .absent) (ha : a = 0xE000F004) :
        exec (.st32w rz rx off) s = .next ((s.writeCir v).advance 4) := store (reachesReg_cir hc ha)
    refine ⟨fun hc ha => store (reachesReg_cer hc ha), fun hc ha hall => ⟨s.invalidateStale ⟨0, 2 ^ 32⟩, ?_, ?_⟩,
      fun hc ha hall hone => ⟨(s.invalidateLine (s.lineOf v)).held, (s.invalidateLine (s.lineOf v)).old,
        (s.invalidateLine (s.lineOf v)).stale, ?_, ?_⟩, fun hc ha hall hone => ?_, fun hc n hn ha => ?_,
      fun hsec ha hlo hhi hmod => store (reachesReg_secr hsec ha hlo hhi hmod),
      fun hsec ha hrange hlo hhi hmod => store (reachesReg_seuReserved hsec ha hrange hlo hhi hmod)⟩
    · rw [storeCir hc ha, State.writeCir, if_pos hall]
      rfl
    · exact fun x hx hlt => invalidateStale_stage hx (Nat.zero_le _) hlt
    · rw [storeCir hc ha, State.writeCir, if_neg (ne_true_of_eq_false hall), if_pos hone]
      rfl
    · rintro j line rfl
      exact invalidateLine_spans s v j
    · rw [storeCir hc ha, State.writeCir, if_neg (ne_true_of_eq_false hall), if_neg (ne_true_of_eq_false hone)]
    · rw [← writeTcip_crcr]
      exact store (reachesReg_crcr hc n.isLt hn ha)
  · exact refused_of_stops h (stops_tcipReg (dataAccess_kind h) ha hcheck htcip
      ((isTcip_iff a).mpr (by omega)) (tcipReg_reserved hc hlo hhi hbad))
  · exact refused_of_stops h (stops_tcipDevice (dataAccess_kind h) ha hcheck htcip
      ((isTcip_iff a).mpr ⟨hlo, hhi⟩) (tcipReg_none hseu hcru) hslave)

end Sys2Proof.Machine
end

section
/-! SUPPORT. Stored code and the cache: the marks on what was stored to, and what a read through the cache gives
(20_memory.md rules R106, R107, R110, R112). -/

namespace Sys2Proof.Machine

/-! ### Stored parcels -/

theorem mem_byteAddrs {j n : Nat} (a : Word) (hj : j < n) : (a + BitVec.ofNat 32 j).toNat ∈ byteAddrs a n := by
  induction n generalizing a j with
  | zero => exact absurd hj (Nat.not_lt_zero j)
  | succ n ih =>
    cases j with
    | zero => simp [byteAddrs]
    | succ j =>
      have haddr : a + BitVec.ofNat 32 (j + 1) = a + 1 + BitVec.ofNat 32 j := by bv_omega
      rw [haddr]
      exact List.mem_cons_of_mem _ (ih (a + 1) (Nat.lt_of_succ_lt_succ hj))

/-- A parcel with a byte that waits to be made visible is not fetched (rule R107). -/
theorem fetchParcel_stale {s : State} {a : Word} {x : Stale} (hsmc : s.cfg.smcCoherent = false) (hx : x ∈ s.stale)
    (ha : x.addr = a.toNat) (h : Parcel) : s.fetchParcel a ≠ .ok h := by
  have hstale : (!s.cfg.smcCoherent && s.stale.any fun x => x.addr == a.toNat || x.addr == (a + 1).toNat) = true := by
    simp only [hsmc, Bool.not_false, Bool.true_and, List.any_eq_true]
    exact ⟨x, hx, by simp [ha]⟩
  rw [State.fetchParcel, hstale]
  split
  · exact nofun
  · split <;> exact nofun

/-- A word store that is performed marks each of its bytes. -/
theorem st32w_stale {s t : State} {rz rx off j : Nat} {a : Word} (ha : a = s.baseOffset rx off 2)
    (hrz : s.hasReg rz = true) (hrx : s.hasReg rx = true) (h : Allowed s a .word .write (rx == 14))
    (ht : exec (.st32w rz rx off) s = .next t) (hj : j < 4) :
    t.cfg = s.cfg ∧ ⟨(a + BitVec.ofNat 32 j).toNat, .stored⟩ ∈ t.stale := by
  rw [st32w_writes hrz hrx ha (writeData_allowed s a .word false _ (s.reg rz) h)] at ht
  obtain ⟨held, old, e⟩ := markLines_frame
    (State.markStale { s with mem := s.mem.store s.cfg.bigEndian a (s.reg rz) .word } a Width.word.bytes) a
    Width.word.bytes false s.cfg.smcCoherent
  rw [e] at ht
  cases ht
  exact ⟨rfl, List.mem_append_left _ (List.mem_map_of_mem (mem_byteAddrs a hj))⟩

/-- With the cache disabled a SYNC leaves every location to the next control transfer (rule R107). -/
theorem syncStale_synced {s : State} {x : Stale} (hoff : s.cer.getLsbD 0 = false) (hx : x ∈ s.syncStale) :
    x.stage = .synced := by
  obtain ⟨z, _, rfl⟩ := List.mem_map.mp hx
  rw [hoff, Bool.not_false, Bool.or_true, Bool.not_true, Bool.and_false, if_neg Bool.false_ne_true]

/-- With the cache disabled a SYNC and a jump make every location visible (rule R107). -/
theorem sync_jump_visible {s : State} {rx : Nat} (hrx : s.hasReg rx = true) (hoff : s.cer.getLsbD 0 = false) :
    ∃ u v, exec .sync32 s = .next u ∧ exec (.jmp16 rx) u = .next v ∧ v.stale = [] := by
  refine ⟨_, _, rfl, withRegs_one _ hrx, List.filter_eq_nil_iff.mpr fun x hx => ?_⟩
  simp [syncStale_synced hoff hx]

/-! ### Reads through the cache -/

/-- An address that is cacheable lies in an enabled region (rule R112). -/
theorem inCacheRegion_region {s : State} {a : Word} {n : Nat} (h : s.inCacheRegion a n = .ok true) :
    ∃ i < n, RegionOn (s.crcr[i]?.getD 0) ∧ regionBase (s.crcr[i]?.getD 0) 10 ≤ a.toNat ∧
      a.toNat < regionBase (s.crcr[i]?.getD 0) 10 + 2 ^ (regionSize (s.crcr[i]?.getD 0) + 1) := by
  induction n with
  | zero => cases h
  | succ n ih =>
    have below (h' : s.inCacheRegion a n = .ok true) := (ih h').imp fun i hi => And.imp_left Nat.lt_succ_of_lt hi
    simp only [State.inCacheRegion] at h
    split at h
    · exact below h
    · rename_i hon
      split at h
      · cases h
      · rename_i hlegal
        rw [Bool.not_eq_true, Bool.or_eq_false_iff, Bool.not_eq_false'] at hlegal
        obtain ⟨_, haligned⟩ := hlegal
        split at h
        · rename_i hholds
          have henabled := (regionEnabled_iff _).mp (Bool.not_eq_false _ ▸ hon)
          exact ⟨n, n.lt_succ_self, henabled, (regionHolds_iff a haligned).mp hholds⟩
        · exact below h

/-- Which accesses go through the cache (rules R106, R110). -/
theorem isCached_true {s : State} {a : Word} (h : s.isCached a .read = .ok true) :
    s.cfg.cache ≠ .absent ∧ s.cer.getLsbD 0 = true ∧ s.cer.getLsbD 1 = false ∧ s.onIbus a = true ∧
      s.inCacheRegion a s.cfg.cacheRegions = .ok true := by
  unfold State.isCached at h
  split at h
  · cases h
  · rename_i hon
    rw [Bool.not_eq_true] at hon
    simp only [Bool.or_eq_false_iff, Bool.and_eq_false_iff, decide_eq_false_iff_not, Bool.not_eq_false', ne_eq,
      reduceCtorEq, not_false_iff, not_true, or_false] at hon
    obtain ⟨⟨⟨hconf, hcer⟩, hdata⟩, hbus⟩ := hon
    exact ⟨hconf, hcer, hdata, hbus, h⟩

/-- A word read that memory answers gives some value, and memory's where no line that is old can hold its bytes. -/
theorem readData_memory {s : State} {a : Word} {sp cached : Bool} (ha : Width.word.aligned a = true)
    (hcheck : s.checkAccess a .word .read sp = .ok ()) (htcip : (s.cfg.tcip && isTcip a) = false)
    (hcached : s.isCached a .read = .ok cached) (hslave : s.slave .read cached a = some .ram) :
    ∃ v, s.readData a .word false sp = .ok v ∧
      ((cached = true → s.mayHitOld a 4 = false) → v = s.mem.load s.cfg.bigEndian a .word) := by
  have hread : s.readData a .word false sp = s.cacheRead a .word .read cached := by
    rw [readData_aligned _ _ _ _ _ ha, State.readAligned, hcheck]
    simp only [State.busRead, htcip, Bool.false_eq_true, if_false, hcached]
  have hsome : ∃ v, s.cacheRead a .word .read cached = .ok v := by
    rcases cacheRead_cases s a .word .read cached with ⟨_, v, _, hv⟩ | hv
    · exact ⟨v, hv⟩
    · exact ⟨_, hv.trans (by rw [State.platformRead, hslave]; rfl)⟩
  obtain ⟨v, hv⟩ := hsome
  refine ⟨v, hread.trans hv, fun hfresh => ?_⟩
  rw [cacheRead_memory s a .word .read cached hslave hfresh] at hv
  exact (Except.ok.inj hv).symm

/-- Settles O57: a store marks its parcels, a SYNC and a jump clear the marks, and a read through the cache gives what a
line holds or what memory answers. -/
theorem storedCodeAndCachedReads : Obligations.stored_code_and_cached_reads := by
  intro s t rz rx off a ha hrz hrx
  refine ⟨fun hsmc h ht => ?_, sync_jump_visible hrx, fun h => ?_,
    fun cached haligned hcheck htcip hcached hslave => ?_⟩
  · have stale : ∀ b j, j < 4 → b = a + BitVec.ofNat 32 j → ∀ p, t.fetchParcel b ≠ .ok p := by
      rintro b j hj rfl p
      obtain ⟨hcfg, hmem⟩ := st32w_stale ha hrz hrx h ht hj
      exact fetchParcel_stale (by rw [hcfg]; exact hsmc) hmem rfl p
    exact ⟨stale a 0 (by decide) (BitVec.add_zero a).symm, stale (a + 2) 2 (by decide) rfl⟩
  · obtain ⟨hconf, hon, hdata, hbus, hregion⟩ := isCached_true h
    obtain ⟨n, hn, henabled, hlo, hhi⟩ := inCacheRegion_region hregion
    rw [regionSize_eq] at hhi
    exact ⟨hconf, hon, hdata, hbus, n, hn, _, rfl, henabled, hlo, hhi⟩
  · obtain ⟨v, hread, hv⟩ := readData_memory haligned hcheck htcip hcached hslave
    exact ⟨v, ld32w_reads hrz hrx ha hread, hv⟩

end Sys2Proof.Machine
end

section
/-! SUPPORT. The instructions of an option that is not configured (30_encoding.md rule R143). -/

namespace Sys2Proof.Machine

/-- An instruction that asks for its option first is an illegal instruction without it. -/
theorem traps_of_unconfigured {s : State} {i : Instr} {option : Bool} {k : Result}
    (h : exec i s = s.requires option k) (hoption : option = false) : Traps i s 4 := by
  subst hoption
  exact traps_of_raise (c := .illegal) rfl (h.trans (requires_absent s k))

/-- Settles O46: each of these instructions asks for its option before anything else. -/
theorem unconfiguredInstructionsAreIllegal : Obligations.unconfigured_instructions_are_illegal := by
  intro s rx n rz
  have traps {i : Instr} {option : Bool} {k : Result} :
      exec i s = s.requires option k → option = false → Traps i s 4 := traps_of_unconfigured
  exact ⟨fun hbct => ⟨traps rfl hbct, traps rfl hbct, traps rfl hbct, traps rfl hbct, traps rfl hbct, traps rfl hbct,
      traps rfl hbct⟩,
    fun hnest => ⟨traps rfl hnest, traps rfl hnest, traps rfl hnest, traps rfl hnest⟩⟩

end Sys2Proof.Machine
end

section
/-! SUPPORT. A word that decodes is the word of the instruction it decodes to: a word is the sum of its fields, and each
choice of the decoder reads the fields that the encoder writes (30_encoding.md rules R138 to R143). -/

namespace Sys2Proof.Encoding

/-! ### A word is the sum of its fields -/

/-- A field is below every number that its width allows. -/
@[simp] theorem bits_lt {w lo len n : Nat} (h : 2 ^ len ≤ n) : bits w lo len < n :=
  (Nat.mod_lt _ (Nat.two_pow_pos len)).trans_le h

section Word32
variable {w : Nat} (hw : w < 2 ^ 32)
include hw

theorem word_eq_reg_fields : w = bits w 26 6 * 0x4000000 + bits w 21 5 * 0x200000 + bits w 16 5 * 0x10000 +
    bits w 5 11 * 0x20 + bits w 0 5 := by
  simp only [bits]
  omega

theorem word_eq_imm12_fields : w = bits w 26 6 * 0x4000000 + bits w 21 5 * 0x200000 + bits w 16 5 * 0x10000 +
    bits w 12 4 * 0x1000 + bits w 0 12 := by
  simp only [bits]
  omega

theorem word_eq_imm16_fields : w = bits w 26 6 * 0x4000000 + bits w 21 5 * 0x200000 + bits w 16 5 * 0x10000 +
    bits w 0 16 := by
  simp only [bits]
  omega

theorem word_eq_imm18_fields : w = bits w 26 6 * 0x4000000 + bits w 21 5 * 0x200000 + bits w 18 3 * 0x40000 +
    bits w 0 18 := by
  simp only [bits]
  omega

theorem word_eq_imm26_fields : w = bits w 26 6 * 0x4000000 + bits w 0 26 := by
  simp only [bits]
  omega

end Word32

/-- A figure that prints two register fields as zero tests them as one field. -/
theorem bits_16_10 (w : Nat) : bits w 16 10 = bits w 21 5 * 32 + bits w 16 5 := by
  simp only [bits]
  omega

/-- The number of a trap is a part of its opcode (rule R399). -/
theorem bits_10_2 (w : Nat) : bits w 10 2 = bits w 5 11 / 32 % 4 := by
  simp only [bits]
  omega

section Word16
variable {w : Nat} (hw : w < 2 ^ 16)
include hw

theorem word_eq_imm8_fields : w = bits w 11 5 * 0x800 + bits w 8 3 * 0x100 + bits w 0 8 := by
  simp only [bits]
  omega

theorem word_eq_imm5_fields : w = bits w 11 5 * 0x800 + bits w 8 3 * 0x100 + bits w 5 3 * 0x20 + bits w 0 5 := by
  simp only [bits]
  omega

theorem word_eq_imm10_fields : w = bits w 11 5 * 0x800 + bits w 10 1 * 0x400 + bits w 0 10 := by
  simp only [bits]
  omega

theorem word_eq_stack_fields :
    w = bits w 11 5 * 0x800 + bits w 10 1 * 0x400 + bits w 8 2 * 0x100 + bits w 5 3 * 0x20 + bits w 0 5 := by
  simp only [bits]
  omega

theorem word_eq_rr_fields :
    w = bits w 13 3 * 0x2000 + bits w 10 3 * 0x400 + bits w 6 4 * 0x40 + bits w 2 4 * 4 + bits w 0 2 := by
  simp only [bits]
  omega

end Word16

/-- The fields of a register list (rule R130). -/
theorem bits_0_5_eq_list (w : Nat) : bits w 0 5 = bits w 4 1 * 16 + bits w 0 4 := by
  simp only [bits]
  omega

/-- Bits 4:0 as a field of three bits above one of two (rules R127, R130). -/
theorem bits_0_5_eq_size (w : Nat) : bits w 0 5 = bits w 2 3 * 4 + bits w 0 2 := by
  simp only [bits]
  omega

/-- IMM1 of lrw16 is a part of bits 15:11 (rule R131). -/
theorem bits_12_1 (w : Nat) : bits w 12 1 = bits w 11 5 / 2 % 2 := by
  simp only [bits]
  omega

/-- The group of rule R124 is a part of bits 15:11. -/
theorem bits_13_3 (w : Nat) : bits w 13 3 = bits w 11 5 / 4 := by
  simp only [bits]
  omega

/-! ### What a decoder reads -/

/-- What a decoder reads, if anything, is a well-formed core instruction whose word is `w`. -/
def ReadsWord (w : Nat) : Except Reject Instr → Prop
  | .ok i => i.wf = true ∧ i.core = i ∧ encodeCore i = w
  | .error _ => True

@[simp] theorem readsWord_ok {w : Nat} {i : Instr} :
    ReadsWord w (.ok i) ↔ i.wf = true ∧ i.core = i ∧ encodeCore i = w := .rfl

@[simp] theorem readsWord_error {w : Nat} {e : Reject} : ReadsWord w (.error e) ↔ True := .rfl

theorem readsWord_ite {w : Nat} {c : Prop} [Decidable c] {x y : Except Reject Instr} :
    ReadsWord w (if c then x else y) ↔ (c → ReadsWord w x) ∧ (¬ c → ReadsWord w y) := by
  split <;> simp [*]

/-- A choice among the rows of a figure: what the rows before it were is not needed. -/
theorem ReadsWord.ite {w : Nat} {c : Prop} [Decidable c] {x y : Except Reject Instr}
    (hx : c → ReadsWord w x) (hy : ReadsWord w y) : ReadsWord w (if c then x else y) :=
  readsWord_ite.mpr ⟨hx, fun _ => hy⟩

@[simp] theorem readsWord_needZero {w f : Nat} {i : Instr} :
    ReadsWord w (needZero f i) ↔ (f = 0 → ReadsWord w (.ok i)) := by
  simp only [needZero, readsWord_ite, readsWord_error, implies_true, and_true]

@[simp] theorem readsWord_decodeList {w : Nat} {i : Instr} :
    ReadsWord w (decodeList w i) ↔ (bits w 0 4 ≤ 8 → ReadsWord w (.ok i)) := by
  simp only [decodeList, readsWord_ite, readsWord_error, implies_true, and_true]

@[simp] theorem readsWord_decodeBct {w : Nat} {half word : Instr} : ReadsWord w (decodeBct w half word) ↔
    (bits w 0 2 = 0 → ReadsWord w (.ok half)) ∧ (bits w 0 2 = 2 → ReadsWord w (.ok word)) := by
  simp only [decodeBct, readsWord_ite, readsWord_error, implies_true, and_true]
  exact and_congr_right fun _ => ⟨fun h hword => h (by omega) hword, fun h _ => h⟩

/-! ### The 32-bit decoders -/

section Word32
variable {w : Nat} (hw : w < 2 ^ 32)
include hw

theorem decodeReg_readsWord (h26 : bits w 26 6 = 49) : ReadsWord w (decodeReg w) := by
  have hsum := word_eq_reg_fields hw
  have hzero := bits_16_10 w
  unfold decodeReg
  repeat' apply ReadsWord.ite
  all_goals simp [Instr.wf, Instr.core, encodeCore] <;> omega

theorem decodeControl_readsWord (h26 : bits w 26 6 = 48) : ReadsWord w (decodeControl w) := by
  have hsum := word_eq_reg_fields hw
  have hzero := bits_16_10 w
  have htrap := bits_10_2 w
  unfold decodeControl
  repeat' apply ReadsWord.ite
  all_goals simp [Instr.wf, Instr.core, encodeCore] <;> omega

theorem decodeI16_readsWord (h26 : bits w 26 6 = 58) : ReadsWord w (decodeI16 w) := by
  have hsum := word_eq_imm16_fields hw
  unfold decodeI16
  repeat' apply ReadsWord.ite
  all_goals simp [Instr.wf, Instr.core, encodeCore] <;> omega

theorem decodeArith12_readsWord (h26 : bits w 26 6 = 57) : ReadsWord w (decodeArith12 w) := by
  have hsum := word_eq_imm12_fields hw
  unfold decodeArith12
  repeat' apply ReadsWord.ite
  all_goals simp [Instr.wf, Instr.core, encodeCore] <;> omega

theorem decodeLoad12_readsWord (h26 : bits w 26 6 = 54) : ReadsWord w (decodeLoad12 w) := by
  have hsum := word_eq_imm12_fields hw
  unfold decodeLoad12
  repeat' apply ReadsWord.ite
  all_goals simp [Instr.wf, Instr.core, encodeCore] <;> omega

theorem decodeStore12_readsWord (h26 : bits w 26 6 = 55) : ReadsWord w (decodeStore12 w) := by
  have hsum := word_eq_imm12_fields hw
  unfold decodeStore12
  repeat' apply ReadsWord.ite
  all_goals simp [Instr.wf, Instr.core, encodeCore] <;> omega

theorem decode32_readsWord : ReadsWord w (decode32 w) := by
  have hreg := word_eq_reg_fields hw
  have himm16 := word_eq_imm16_fields hw
  have himm18 := word_eq_imm18_fields hw
  have himm26 := word_eq_imm26_fields hw
  unfold decode32
  refine .ite (decodeControl_readsWord hw) (.ite (decodeReg_readsWord hw) (.ite ?grs (.ite ?ldm (.ite ?stm
    (.ite (decodeLoad12_readsWord hw) (.ite (decodeStore12_readsWord hw) (.ite ?bsr (.ite (decodeArith12_readsWord hw)
      (.ite (decodeI16_readsWord hw) (.ite ?ori trivial))))))))))
  all_goals (simp [readsWord_ite, Instr.wf, Instr.core, encodeCore]; omega)

end Word32

/-! ### The 16-bit decoders -/

section Word16
variable {w : Nat} (hw : w < 2 ^ 16)
include hw

theorem decodeLrw_readsWord (h11 : bits w 11 5 = 0 ∨ bits w 11 5 = 2) (h10 : bits w 10 1 = 0) :
    ReadsWord w (decodeLrw w) := by
  have hsum := word_eq_stack_fields hw
  have himm1 := bits_12_1 w
  have hhi : bits w 8 2 < 4 := bits_lt le_rfl
  have hlo : bits w 0 5 < 32 := bits_lt le_rfl
  unfold decodeLrw
  split
  · exact ⟨rfl, rfl, Eq.symm ‹_›⟩
  · simp [Instr.wf, Instr.core, encodeCore]
    omega

theorem decodeStack_readsWord (h11 : bits w 11 5 = 2) (h10 : bits w 10 1 = 1) : ReadsWord w (decodeStack w) := by
  have hsum := word_eq_stack_fields hw
  have hhi : bits w 8 2 < 4 := bits_lt le_rfl
  have hlo : bits w 0 5 < 32 := bits_lt le_rfl
  have hlist := bits_0_5_eq_list w
  have hsize := bits_0_5_eq_size w
  unfold decodeStack
  refine .ite ?addi (.ite ?subi (readsWord_ite.mpr ⟨fun _ => trivial, fun h8 => ?rest⟩))
  case' rest => repeat' apply ReadsWord.ite
  all_goals simp [readsWord_ite, Instr.wf, Instr.core, encodeCore] <;> omega

theorem decodeRI5_readsWord (h11 : bits w 11 5 = 7) : ReadsWord w (decodeRI5 w) := by
  have hsum := word_eq_imm5_fields hw
  have hsize := bits_0_5_eq_size w
  unfold decodeRI5
  repeat' apply ReadsWord.ite
  all_goals simp [Instr.wf, Instr.core, encodeCore] <;> omega

theorem decodeRRR_readsWord (h11 : bits w 11 5 = 11) : ReadsWord w (decodeRRR w) := by
  have hsum := word_eq_imm5_fields hw
  have hsize := bits_0_5_eq_size w
  have hop : bits w 0 2 < 4 := bits_lt le_rfl
  simp [decodeRRR, readsWord_ite, Instr.wf, Instr.core, encodeCore]
  omega

theorem decodeRR_readsWord (h13 : bits w 13 3 = 3) : ReadsWord w (decodeRR w) := by
  have hsum := word_eq_rr_fields hw
  have hop : bits w 0 2 < 4 := bits_lt le_rfl
  unfold decodeRR
  repeat' apply ReadsWord.ite
  all_goals simp [Instr.wf, Instr.core, encodeCore] <;> omega

theorem decode16_readsWord : ReadsWord w (decode16 w) := by
  have himm5 := word_eq_imm5_fields hw
  have himm8 := word_eq_imm8_fields hw
  have himm10 := word_eq_imm10_fields hw
  have hhi : bits w 8 3 < 8 := bits_lt le_rfl
  have hlo : bits w 0 5 < 32 := bits_lt le_rfl
  have h10 : bits w 10 1 < 2 := bits_lt le_rfl
  unfold decode16
  refine .ite (fun h11 => readsWord_ite.mpr ⟨decodeLrw_readsWord hw (.inl h11), fun h => ?br⟩) (.ite ?bt (.ite
    (fun h11 => readsWord_ite.mpr ⟨decodeLrw_readsWord hw (.inr h11), fun h => decodeStack_readsWord hw h11 ?stack⟩)
    (.ite ?addisp (.ite ?addi (.ite ?subi (.ite ?movi (.ite (decodeRI5_readsWord hw) (.ite ?lsli (.ite ?lsri (.ite ?asri
      (.ite (decodeRRR_readsWord hw) (.ite (fun h => decodeRR_readsWord hw ?rr) ?memory))))))))))))
  case rr => rw [bits_13_3]; omega
  case stack => omega
  case' memory => repeat' apply ReadsWord.ite
  all_goals simp [readsWord_ite, Instr.wf, Instr.core, encodeCore] <;> omega

end Word16

/-- Settles O2: every row that the decoder can reach reads all fields of the word, and the encoder writes them back. -/
theorem encodeOfDecode : Obligations.encode_of_decode := by
  intro h0 h1 i hh0 hh1 hdec
  have hreads : ReadsWord (if isLong h0 then h0 * 65536 + h1 else h0) (decodeParcels h0 h1) := by
    unfold decodeParcels
    split
    · exact decode32_readsWord (by omega)
    · exact decode16_readsWord (by omega)
  rw [hdec] at hreads
  obtain ⟨hwf, hcore, hword⟩ := hreads
  exact ⟨hwf, hcore, (congrArg encodeCore hcore).trans hword⟩

end Sys2Proof.Encoding
end

section
/-! SUPPORT. Decoding the word of an instruction gives the instruction: the fields of the word of each figure, the
decoder on it, and the bytes that hold it (30_encoding.md rules R121, R136, R138 to R142). -/

namespace Sys2Proof.Encoding

/-! ### The fields of an encoded word

In each lemma `base` holds the fixed bits of a figure, and is zero where the operands stand. -/

section Fields
variable {w base : Nat}

/-- Registers in bits 25:21, 20:16 and 4:0 (rule R132). -/
theorem bits_reg {hi mid lo : Nat} (hw : base + hi * 0x200000 + mid * 0x10000 + lo = w)
    (hbase : base % 0x20 = 0 ∧ base / 0x10000 % 0x400 = 0) (hhi : hi < 32) (hmid : mid < 32) (hlo : lo < 32) :
    bits w 26 6 = base / 0x4000000 % 0x40 ∧ bits w 21 5 = hi ∧ bits w 16 5 = mid ∧
      bits w 5 11 = base / 0x20 % 0x800 ∧ bits w 0 5 = lo := by
  simp only [bits]
  omega

/-- Registers in bits 20:16 and 4:0 only. -/
theorem bits_reg_absent_hi {mid lo : Nat} (hw : base + mid * 0x10000 + lo = w)
    (hbase : base % 0x20 = 0 ∧ base / 0x10000 % 0x400 = 0) (hmid : mid < 32) (hlo : lo < 32) :
    bits w 26 6 = base / 0x4000000 % 0x40 ∧ bits w 21 5 = 0 ∧ bits w 16 5 = mid ∧
      bits w 5 11 = base / 0x20 % 0x800 ∧ bits w 0 5 = lo :=
  bits_reg (hi := 0) hw hbase (by decide) hmid hlo

/-- A 12-bit immediate (rule R133). -/
theorem bits_imm12 {hi mid imm : Nat} (hw : base + hi * 0x200000 + mid * 0x10000 + imm = w)
    (hbase : base % 0x1000 = 0 ∧ base / 0x10000 % 0x400 = 0) (hhi : hi < 32) (hmid : mid < 32) (himm : imm < 4096) :
    bits w 26 6 = base / 0x4000000 % 0x40 ∧ bits w 21 5 = hi ∧ bits w 16 5 = mid ∧
      bits w 12 4 = base / 0x1000 % 0x10 ∧ bits w 0 12 = imm := by
  simp only [bits]
  omega

/-- A register and a 16-bit immediate (rule R134). -/
theorem bits_imm16 {mid imm : Nat} (hw : base + mid * 0x10000 + imm = w) (hbase : base % 0x200000 = 0)
    (hmid : mid < 32) (himm : imm < 65536) :
    bits w 26 6 = base / 0x4000000 % 0x40 ∧ bits w 21 5 = base / 0x200000 % 0x20 ∧ bits w 16 5 = mid ∧
      bits w 0 16 = imm := by
  simp only [bits]
  omega

/-- Two registers of four bits (rule R124). -/
theorem bits_rr {rz rx : Nat} (hw : base + rz * 0x40 + rx * 0x4 = w) (hbase : base / 4 % 0x100 = 0)
    (hrz : rz < 16) (hrx : rx < 16) :
    bits w 11 5 = base / 0x800 % 0x20 ∧ bits w 10 3 = base / 0x400 % 8 ∧ bits w 6 4 = rz ∧ bits w 2 4 = rx ∧
      bits w 0 2 = base % 4 := by
  simp only [bits]
  omega

/-- The lower one of the two registers only. -/
theorem bits_rr_absent_rz {rx : Nat} (hw : base + rx * 0x4 = w) (hbase : base / 4 % 0x100 = 0) (hrx : rx < 16) :
    bits w 11 5 = base / 0x800 % 0x20 ∧ bits w 10 3 = base / 0x400 % 8 ∧ bits w 6 4 = 0 ∧ bits w 2 4 = rx ∧
      bits w 0 2 = base % 4 :=
  bits_rr (rz := 0) hw hbase (by decide) hrx

/-- Three registers, or two and an immediate, of three bits (rule R127). -/
theorem bits_rrr {rx rz ry : Nat} (hw : base + rx * 0x100 + rz * 0x20 + ry * 0x4 = w)
    (hbase : base / 4 % 0x200 = 0) (hrx : rx < 8) (hrz : rz < 8) (hry : ry < 8) :
    bits w 11 5 = base / 0x800 % 0x20 ∧ bits w 8 3 = rx ∧ bits w 5 3 = rz ∧ bits w 2 3 = ry ∧
      bits w 0 2 = base % 4 := by
  simp only [bits]
  omega

/-- Two registers and a 5-bit immediate (rule R126). -/
theorem bits_imm5 {rx rz imm : Nat} (hw : base + rx * 0x100 + rz * 0x20 + imm = w)
    (hbase : base % 0x800 = 0) (hrx : rx < 8) (hrz : rz < 8) (himm : imm < 32) :
    bits w 11 5 = base / 0x800 % 0x20 ∧ bits w 8 3 = rx ∧ bits w 5 3 = rz ∧ bits w 0 5 = imm := by
  simp only [bits]
  omega

/-- A register and a 5-bit immediate (rule R128). -/
theorem bits_ri5 {rx imm : Nat} (hw : base + rx * 0x100 + imm = w)
    (hbase : base / 0x100 % 8 = 0 ∧ base % 0x20 = 0) (hrx : rx < 8) (himm : imm < 32) :
    bits w 11 5 = base / 0x800 % 0x20 ∧ bits w 8 3 = rx ∧ bits w 5 3 = base / 0x20 % 8 ∧ bits w 0 5 = imm := by
  simp only [bits]
  omega

/-- A register and an 8-bit immediate (rule R125). -/
theorem bits_imm8 {rz imm : Nat} (hw : base + rz * 0x100 + imm = w)
    (hbase : base % 0x800 = 0) (hrz : rz < 8) (himm : imm < 256) :
    bits w 11 5 = base / 0x800 % 0x20 ∧ bits w 8 3 = rz ∧ bits w 0 8 = imm := by
  simp only [bits]
  omega

/-- A 10-bit offset (rule R129). -/
theorem bits_imm10 {imm : Nat} (hw : base + imm = w) (hbase : base % 0x400 = 0) (himm : imm < 1024) :
    bits w 11 5 = base / 0x800 % 0x20 ∧ bits w 10 1 = base / 0x400 % 2 ∧ bits w 0 10 = imm := by
  simp only [bits]
  omega

/-- A split 7-bit immediate (rule R130). -/
theorem bits_imm7 {hi lo : Nat} (hw : base + hi * 0x100 + lo = w) (hbase : base % 0x20 = 0 ∧ base / 0x100 % 4 = 0)
    (hhi : hi < 4) (hlo : lo < 32) :
    bits w 11 5 = base / 0x800 % 0x20 ∧ bits w 10 1 = base / 0x400 % 2 ∧ bits w 8 2 = hi ∧
      bits w 5 3 = base / 0x20 % 8 ∧ bits w 0 5 = lo := by
  simp only [bits]
  omega

/-- A register list (rule R130). -/
theorem bits_list {r15 list1 : Nat} (hw : base + r15 * 0x10 + list1 = w) (hbase : base % 0x20 = 0)
    (hr15 : r15 < 2) (hlist : list1 ≤ 8) :
    bits w 11 5 = base / 0x800 % 0x20 ∧ bits w 10 1 = base / 0x400 % 2 ∧ bits w 8 2 = base / 0x100 % 4 ∧
      bits w 5 3 = base / 0x20 % 8 ∧ bits w 4 1 = r15 ∧ bits w 0 4 = list1 := by
  simp only [bits]
  omega

/-- The register of bpush16 and bpop16 (rule R130). -/
theorem bits_bct {rz : Nat} (hw : base + rz * 4 = w) (hbase : base / 4 % 8 = 0) (hrz : rz < 8) :
    bits w 11 5 = base / 0x800 % 0x20 ∧ bits w 10 1 = base / 0x400 % 2 ∧ bits w 8 2 = base / 0x100 % 4 ∧
      bits w 5 3 = base / 0x20 % 8 ∧ bits w 2 3 = rz ∧ bits w 0 2 = base % 4 := by
  simp only [bits]
  omega

/-- The register and the split immediate of lrw16 (rule R131). -/
theorem bits_lrw {imm1 hi rz lo : Nat} (hw : imm1 * 0x1000 + hi * 0x100 + rz * 0x20 + lo = w) (himm1 : imm1 < 2)
    (hhi : hi < 4) (hrz : rz < 8) (hlo : lo < 32) :
    bits w 11 5 = 2 * imm1 ∧ bits w 10 1 = 0 ∧ bits w 12 1 = imm1 ∧ bits w 8 2 = hi ∧ bits w 5 3 = rz ∧
      bits w 0 5 = lo := by
  simp only [bits]
  omega

/-- A 16-bit offset only (rule R134). -/
theorem bits_branch {imm : Nat} (hw : base + imm = w) (hbase : base % 0x200000 = 0) (himm : imm < 65536) :
    bits w 26 6 = base / 0x4000000 % 0x40 ∧ bits w 21 5 = base / 0x200000 % 0x20 ∧ bits w 16 5 = 0 ∧
      bits w 0 16 = imm :=
  bits_imm16 (mid := 0) hw hbase (by decide) himm

/-- A register and an 18-bit offset (rule R134). -/
theorem bits_imm18 {hi imm : Nat} (hw : base + hi * 0x200000 + imm = w)
    (hbase : base % 0x40000 = 0 ∧ base / 0x200000 % 0x20 = 0) (hhi : hi < 32) (himm : imm < 262144) :
    bits w 26 6 = base / 0x4000000 % 0x40 ∧ bits w 21 5 = hi ∧ bits w 18 3 = base / 0x40000 % 8 ∧
      bits w 0 18 = imm := by
  simp only [bits]
  omega

/-- A 26-bit offset (rule R134). -/
theorem bits_imm26 {imm : Nat} (hw : base + imm = w) (hbase : base % 0x4000000 = 0) (himm : imm < 67108864) :
    bits w 26 6 = base / 0x4000000 % 0x40 ∧ bits w 0 26 = imm := by
  simp only [bits]
  omega

end Fields

/-! ### Pseudo-instructions -/

/-- bgeni32 stands for a move of a power of two that fits its field (rule R287). -/
theorem core_bgeni32 (rz imm5 : Nat) : ∃ imm16, (imm5 < 32 → imm16 < 65536) ∧
    ((Instr.bgeni32 rz imm5).core = .movi32 rz imm16 ∨ (Instr.bgeni32 rz imm5).core = .movih32 rz imm16) := by
  have hpow {k : Nat} (hk : k < 16) : 2 ^ k < 65536 := Nat.pow_lt_pow_right (by decide) hk
  by_cases h : imm5 < 16
  · exact ⟨2 ^ imm5, fun _ => hpow h, .inl (if_pos h)⟩
  · exact ⟨2 ^ (imm5 - 16), fun hlt => hpow (by omega), .inr (if_neg h)⟩

/-- A core instruction is no pseudo-instruction. -/
theorem core_core (i : Instr) : i.core.core = i.core := by
  cases i
  case bgeni32 rz imm5 => obtain ⟨_, _, h | h⟩ := core_bgeni32 rz imm5 <;> rw [h] <;> rfl
  all_goals rfl

/-- What a well-formed pseudo-instruction stands for is well-formed. -/
theorem core_wf {i : Instr} (h : i.wf = true) : i.core.wf = true := by
  cases i
  case rsub32 | not16 | not32 | mov32 | movf32 | movt32 | ldq32 | stq32 => simp_all [Instr.wf, Instr.core]
  case bgeni32 rz imm5 =>
    simp only [Instr.wf, Bool.and_eq_true, decide_eq_true_eq] at h
    obtain ⟨hrz, himm⟩ := h
    obtain ⟨imm16, hlt, hcore | hcore⟩ := core_bgeni32 rz imm5 <;> simp [hcore, Instr.wf, hrz, hlt himm]
  case rts16 => rfl
  all_goals exact h

/-! ### Decoding a word -/

/-- The 32-bit rows, grouped by the places of their operands. -/
theorem decode32_encodeCore {i : Instr} (hwf : i.wf = true) (hcore : i.core = i) (hsize : i.size = 4) :
    decode32 (encodeCore i) = .ok i := by
  generalize hw : encodeCore i = w
  cases i <;> cases hsize
  case rsub32 | not32 | mov32 | movf32 | movt32 | ldq32 | stq32 => cases hcore
  case bgeni32 rz imm5 =>
    obtain ⟨_, _, h | h⟩ := core_bgeni32 rz imm5 <;> cases h.symm.trans hcore
  all_goals simp only [Instr.wf, Bool.and_eq_true, decide_eq_true_eq] at hwf
  case addu32 | addc32 | subu32 | subc32 | ixh32 | ixw32 | and32 | andn32 | or32 | xor32 | nor32 | lsl32 | lsli32 |
    lslc32 | lsr32 | lsri32 | lsrc32 | asr32 | asri32 | asrc32 | rotl32 | rotli32 | xsr32 | bclri32 | bseti32 | mult32 |
    mfcr32 =>
    obtain ⟨⟨hlo, hmid⟩, hhi⟩ := hwf
    obtain ⟨h26, h21, h16, h5, h0⟩ := bits_reg hw (by decide) hhi hmid hlo
    simp [decode32, decodeReg, decodeControl, h26, h21, h16, h5, h0]
  case incf32 | inct32 | decf32 | dect32 | ldm32 | stm32 =>
    obtain ⟨⟨hhi, hmid⟩, hlo⟩ := hwf
    obtain ⟨h26, h21, h16, h5, h0⟩ := bits_reg hw (by decide) hhi hmid hlo
    simp [decode32, decodeReg, h26, h21, h16, h5, h0]
  case mtcr32 =>
    obtain ⟨⟨hmid, hlo⟩, hhi⟩ := hwf
    obtain ⟨h26, h21, h16, h5, h0⟩ := bits_reg hw (by decide) hhi hmid hlo
    simp [decode32, decodeControl, h26, h21, h16, h5, h0]
  case ff0 | ff1 | xtrb0 | xtrb1 | xtrb2 | xtrb3 =>
    obtain ⟨hlo, hmid⟩ := hwf
    obtain ⟨h26, h21, h16, h5, h0⟩ := bits_reg_absent_hi hw (by decide) hmid hlo
    simp [decode32, decodeReg, needZero, h26, h21, h16, h5, h0]
  case mvc32 =>
    obtain ⟨h26, h21, h16, h5, h0⟩ := bits_reg (hi := 0) (mid := 0) (base := 0xc4000500)
      (by simpa [encodeCore] using hw) (by decide) (by decide) (by decide) hwf
    simp [decode32, decodeReg, needZero, bits_16_10, h26, h21, h16, h5, h0]
  case btsti32 =>
    obtain ⟨hmid, hhi⟩ := hwf
    obtain ⟨h26, h21, h16, h5, h0⟩ := bits_reg (base := 0xc4002880) (lo := 0) hw (by decide) hhi hmid (by decide)
    simp [decode32, decodeReg, needZero, h26, h21, h16, h5, h0]
  case bmaski32 =>
    obtain ⟨hlo, hhi⟩ := hwf
    obtain ⟨h26, h21, h16, h5, h0⟩ := bits_reg (base := 0xc4005020) (mid := 0)
      (by simpa [encodeCore] using hw) (by decide) hhi (by decide) hlo
    simp [decode32, decodeReg, needZero, h26, h21, h16, h5, h0]
  case addi32 | subi32 | andi32 | andni32 | xori32 | ld32b | ld32bs | ld32h | ld32hs | ld32w | st32b | st32h | st32w =>
    obtain ⟨⟨hhi, hmid⟩, himm⟩ := hwf
    obtain ⟨h26, h21, h16, h12, h0⟩ := bits_imm12 hw (by decide) hhi hmid himm
    simp [decode32, decodeArith12, decodeLoad12, decodeStore12, h26, h21, h16, h12, h0]
  case cmphsi32 | cmplti32 | cmpnei32 | movi32 | movih32 | lrw32 =>
    obtain ⟨hmid, himm⟩ := hwf
    obtain ⟨h26, h21, h16, h0⟩ := bits_imm16 hw (by decide) hmid himm
    simp [decode32, decodeI16, h26, h21, h16, h0]
  case br32 | bt32 | bf32 =>
    obtain ⟨h26, h21, h16, h0⟩ := bits_branch hw (by decide) hwf
    simp [decode32, decodeI16, needZero, h26, h21, h16, h0]
  case ori32 rz rx imm16 =>
    obtain ⟨⟨hrz, hrx⟩, himm⟩ := hwf
    obtain ⟨h26, h21, h16, h0⟩ := bits_imm16 hw (by omega) hrx himm
    have hop : bits w 26 6 = 59 := by omega
    have hz : bits w 21 5 = rz := by omega
    simp [decode32, hop, hz, h16, h0]
  case grs32 =>
    obtain ⟨hhi, himm⟩ := hwf
    obtain ⟨h26, h21, h18, h0⟩ := bits_imm18 hw (by decide) hhi himm
    simp [decode32, h26, h21, h18, h0]
  case bsr32 =>
    obtain ⟨h26, h0⟩ := bits_imm26 hw (by decide) hwf
    simp [decode32, h26, h0]
  case trap32 n =>
    interval_cases n <;> simp [← hw, encodeCore, decode32, decodeControl, needZero, bits]
  case rte32 | stop32 | doze32 | sync32 | wait32 | bmset32 | bmclr32 =>
    simp [← hw, encodeCore, decode32, decodeControl, needZero, bits]

/-- The 16-bit rows, grouped by the places of their operands. -/
theorem decode16_encodeCore {i : Instr} (hwf : i.wf = true) (hcore : i.core = i) (hsize : i.size = 2) :
    decode16 (encodeCore i) = .ok i := by
  generalize hw : encodeCore i = w
  cases i <;> cases hsize
  case not16 | rts16 => cases hcore
  all_goals simp only [Instr.wf, Bool.and_eq_true, decide_eq_true_eq] at hwf
  case addu16 | addc16 | subu16 | subc16 | and16 | andn16 | or16 | xor16 | nor16 | mov16 | lsl16 | lsr16 | asr16 |
    rotl16 | zextb16 | zexth16 | sextb16 | sexth16 | revb16 | revh16 | mult16 =>
    obtain ⟨hrz, hrx⟩ := hwf
    obtain ⟨h11, h10, h6, h2, h0⟩ := bits_rr hw (by decide) hrz hrx
    simp [decode16, decodeRR, h11, h10, h6, h2, h0]
  case cmphs16 | cmplt16 | cmpne16 | tst16 =>
    obtain ⟨hrx, hry⟩ := hwf
    obtain ⟨h11, h10, h6, h2, h0⟩ := bits_rr hw (by decide) hry hrx
    simp [decode16, decodeRR, h11, h10, h6, h2, h0]
  case mvcv16 =>
    obtain ⟨h11, h10, h6, h2, h0⟩ := bits_rr (base := 0x6403) (rx := 0) hw (by decide) hwf (by decide)
    simp [decode16, decodeRR, needZero, h11, h10, h6, h2, h0]
  case tstnbz16 | jmp16 | jsr16 =>
    obtain ⟨h11, h10, h6, h2, h0⟩ := bits_rr_absent_rz hw (by decide) hwf
    simp [decode16, decodeRR, needZero, h11, h10, h6, h2, h0]
  case addu16r | subu16r | addi16r | subi16r =>
    obtain ⟨⟨hrz, hrx⟩, hry⟩ := hwf
    obtain ⟨h11, h8, h5, h2, h0⟩ := bits_rrr hw (by decide) hrx hrz hry
    simp [decode16, decodeRRR, h11, h8, h5, h2, h0]
  case lsli16 | lsri16 | asri16 | ld16b | ld16h | ld16w | st16b | st16h | st16w =>
    obtain ⟨⟨hrz, hrx⟩, himm⟩ := hwf
    obtain ⟨h11, h8, h5, h0⟩ := bits_imm5 hw (by decide) hrx hrz himm
    simp [decode16, h11, h8, h5, h0]
  case ld16wsp | st16wsp =>
    obtain ⟨hrz, himm⟩ := hwf
    obtain ⟨h11, h8, h5, h0⟩ := bits_imm5 hw (by decide) (Nat.div_lt_of_lt_mul himm) hrz (Nat.mod_lt _ (by decide))
    simp [decode16, h11, h8, h5, h0, Nat.div_add_mod']
  case cmphsi16 | cmplti16 | cmpnei16 | bclri16 | bseti16 | btsti16 =>
    obtain ⟨hrx, himm⟩ := hwf
    obtain ⟨h11, h8, h5, h0⟩ := bits_ri5 hw (by decide) hrx himm
    simp [decode16, decodeRI5, h11, h8, h5, h0]
  case jmpix16 rx imm2 =>
    obtain ⟨hrx, himm⟩ := hwf
    obtain ⟨h11, h8, h5, h0⟩ := bits_ri5 hw (by decide) hrx (by omega)
    have hsum := bits_0_5_eq_size w
    have hlt : bits w 0 2 < 4 := bits_lt le_rfl
    have h2 : bits w 2 3 = 0 := by omega
    have himm2 : bits w 0 2 = imm2 := by omega
    simp [decode16, decodeRI5, needZero, h11, h8, h5, h2, himm2]
  case addi16sp | addi16 | subi16 | movi16 =>
    obtain ⟨hrz, himm⟩ := hwf
    obtain ⟨h11, h8, h0⟩ := bits_imm8 hw (by decide) hrz himm
    simp [decode16, h11, h8, h0]
  case br16 | bt16 | bf16 =>
    obtain ⟨h11, h10, h0⟩ := bits_imm10 hw (by decide) hwf
    simp [decode16, h11, h10, h0]
  case addi16spsp | subi16spsp =>
    obtain ⟨h11, h10, h8, h5, h0⟩ := bits_imm7 hw (by decide) (Nat.div_lt_of_lt_mul hwf) (Nat.mod_lt _ (by decide))
    simp [decode16, decodeStack, h11, h10, h8, h5, h0, Nat.div_add_mod']
  case push16 | pop16 =>
    obtain ⟨hr15, hlist⟩ := hwf
    obtain ⟨h11, h10, h8, h5, h4, h0⟩ := bits_list hw (by decide) hr15 hlist
    simp [decode16, decodeStack, decodeList, h11, h10, h8, h5, h4, h0, hlist]
  case bpush16h | bpush16w | bpop16h | bpop16w =>
    obtain ⟨h11, h10, h8, h5, h2, h0⟩ := bits_bct hw (by decide) hwf
    simp [decode16, decodeStack, decodeBct, h11, h10, h8, h5, h2, h0]
  case ipush16 | ipop16 | nie16 | nir16 | bkpt16 =>
    simp [← hw, encodeCore, decode16, decodeStack, decodeLrw, bits]
  case lrw16 rz imm1 imm7 =>
    obtain ⟨⟨⟨hrz, himm1⟩, himm7⟩, hne⟩ := hwf
    obtain ⟨h11, h10, h12, h8, h5, h0⟩ := bits_lrw hw himm1 (Nat.div_lt_of_lt_mul himm7) hrz
      (Nat.mod_lt _ (by decide))
    have hw0 : w ≠ 0 := by
      simp only [Bool.or_eq_true, bne_iff_ne] at hne
      simp only [encodeCore] at hw
      omega
    have hlrw : decodeLrw w = .ok (.lrw16 rz imm1 imm7) := by
      simp [decodeLrw, hw0, h12, h8, h5, h0, Nat.div_add_mod']
    interval_cases imm1 <;> simp [decode16, h11, h10, hlrw]

/-! ### The bytes of an instruction -/

open Laws.Length in
/-- The first bits of the word of every well-formed instruction say its length (rule R121). -/
theorem encodeWord_length (i : Instr) : Statement i :=
  i.rec
    addu16 addu16r addu32 addc16 addc32 addi16 addi16r addi32 addi16sp addi16spsp subu16 subu16r subu32 subc16
    subc32 subi16 subi16r subi32 subi16spsp rsub32 ixh32 ixw32 incf32 inct32 decf32 dect32 and16 and32 andi32
    andn16 andn32 andni32 or16 or32 ori32 xor16 xor32 xori32 nor16 nor32 not16 not32 lsl16 lsl32 lsli16 lsli32
    lslc32 lsr16 lsr32 lsri16 lsri32 lsrc32 asr16 asr32 asri16 asri32 asrc32 rotl16 rotl32 rotli32 xsr32 cmphs16
    cmphsi16 cmphsi32 cmplt16 cmplti16 cmplti32 cmpne16 cmpnei16 cmpnei32 tst16 tstnbz16 mov16 mov32 movf32 movt32
    movi16 movi32 movih32 mvc32 mvcv16 lrw16 lrw32 grs32 bclri16 bclri32 bseti16 bseti32 btsti16 btsti32 bgeni32
    bmaski32 ff0 ff1 xtrb0 xtrb1 xtrb2 xtrb3 zextb16 zexth16 sextb16 sexth16 mult16 mult32 revb16 revh16 br16 br32
    bt16 bt32 bf16 jmp16 bf32 jmpix16 jsr16 bsr32 rts16 ld16b ld32b ld32bs ld16h ld32h ld32hs ld16w ld16wsp ld32w
    st16b st32b st16h st32h st16w st16wsp st32w ldm32 ldq32 stm32 stq32 push16 pop16 ipush16 ipop16 nie16 nir16
    bpush16h bpush16w bpop16h bpop16w mfcr32 mtcr32 rte32 stop32 doze32 sync32 wait32 trap32 bmset32 bmclr32
    bkpt16

/-- The two bytes of a parcel hold it. -/
theorem parcelBytes_toNat {h : Nat} (hh : h < 65536) :
    (BitVec.ofNat 8 h).toNat + 256 * (BitVec.ofNat 8 (h / 256)).toNat = h := by
  simp only [BitVec.toNat_ofNat]
  omega

/-- A parcel below 0xC000 is an instruction of its own (rule R121). -/
theorem decodeBytes_short {w : Nat} (hw : w < 0xC000) (rest : List Byte) :
    decodeBytes (parcelBytes w ++ rest) = decode16 w := by
  have hshort : isLong w = false := by
    simp only [isLong, bits, beq_eq_false_iff_ne]
    omega
  simp [parcelBytes, decodeBytes, parcelBytes_toNat (show w < 65536 by omega), hshort,
    decodeParcels, -BitVec.toNat_ofNat]

/-- A word that begins with a parcel of 0xC000 or more takes two (rule R121). -/
theorem decodeBytes_long {w : Nat} (hlo : 0xC0000000 ≤ w) (hhi : w < 2 ^ 32) (rest : List Byte) :
    decodeBytes (parcelBytes (w / 65536) ++ parcelBytes (w % 65536) ++ rest) = decode32 w := by
  have hlong : isLong (w / 65536) = true := by
    simp only [isLong, bits, beq_iff_eq]
    omega
  have hfirst := parcelBytes_toNat (show w / 65536 < 65536 by omega)
  have hsecond := parcelBytes_toNat (Nat.mod_lt w (show 65536 > 0 by decide))
  simp only [parcelBytes, List.cons_append, List.nil_append, decodeBytes, hfirst, hsecond, hlong, if_true, decodeParcels,
    Nat.div_add_mod']

/-- Settles O1: a pseudo-instruction has the word of its core instruction, whose rows `decode16_encodeCore` and
`decode32_encodeCore` read back. -/
theorem decodeOfEncode : Obligations.decode_of_encode := by
  intro i rest hwf
  have hcore := core_core i
  have hwf' := core_wf hwf
  unfold encode encodeWord
  have hlen := encodeWord_length i.core hwf'
  rw [encodeWord, hcore] at hlen
  rcases hlen with ⟨hsize, hshort⟩ | ⟨hsize, hlo, hhi⟩
  · rw [if_pos hsize, decodeBytes_short hshort]
    exact decode16_encodeCore hwf' hcore hsize
  · rw [if_neg (by omega), decodeBytes_long hlo hhi]
    exact decode32_encodeCore hwf' hcore hsize

end Sys2Proof.Encoding
end

section
/-! SUPPORT. The results of the data-processing instructions: an instruction that runs one of the shared register
operations on registers that exist completes with the frame of that operation. -/

namespace Sys2Proof.Machine

section
variable {i : Instr} {s : State} {len rz rx ry : Nat} {v : Word}

theorem withRegs_three (k : Result) (hz : s.hasReg rz = true) (hx : s.hasReg rx = true) (hy : s.hasReg ry = true) :
    s.withRegs [rz, rx, ry] k = k :=
  withRegs_of_all s _ k (by simp [hz, hx, hy])

/-- An operation on two registers writes its result and nothing else. -/
theorem binary_completes (f : Word → Word → Word) (hi : exec i s = s.binary len rz rx ry f)
    (hv : f (s.reg rx) (s.reg ry) = v) (hz : s.hasReg rz = true) (hx : s.hasReg rx = true) (hy : s.hasReg ry = true) :
    Completes i s (Writes s · rz v len) := by
  subst hv
  exact ⟨_, hi.trans (withRegs_three _ hz hx hy), result_writes s len rz _ hz⟩

/-- An operation on one register writes its result and nothing else. -/
theorem unary_completes (f : Word → Word) (hi : exec i s = s.unary len rz rx f) (hv : f (s.reg rx) = v)
    (hz : s.hasReg rz = true) (hx : s.hasReg rx = true) : Completes i s (Writes s · rz v len) := by
  subst hv
  exact ⟨_, hi.trans (withRegs_two _ hz hx), result_writes s len rz _ hz⟩

/-- An operation on two registers and C writes its result and C, and nothing else. -/
theorem binaryC_completes (f : Word → Word → Bool → Word × Bool) (hi : exec i s = s.binaryC len rz rx ry f)
    (hz : s.hasReg rz = true) (hx : s.hasReg rx = true) (hy : s.hasReg ry = true) :
    Completes i s
      (WritesC s · rz (f (s.reg rx) (s.reg ry) s.psrC).1 (f (s.reg rx) (s.reg ry) s.psrC).2 len) :=
  ⟨_, hi.trans (withRegs_three _ hz hx hy), resultC_writesC s len rz _ _ hz⟩

/-- A conditional operation writes its result where C is the value it tests, and goes on elsewhere. -/
theorem conditional_completes (c : Bool) (f : Word → Word) (hi : exec i s = s.conditional len rz rx c f)
    (hv : f (s.reg rx) = v) (hz : s.hasReg rz = true) (hx : s.hasReg rx = true) :
    Completes i s (fun t =>
      if s.psrC = c then Writes s t rz v len else GoesTo s t (s.pc + BitVec.ofNat 32 len)) := by
  subst hv
  have hexec := hi.trans (withRegs_two _ hz hx)
  by_cases hc : s.psrC = c
  · simp only [hc, if_true] at hexec ⊢
    exact ⟨_, hexec, result_writes s len rz _ hz⟩
  · simp only [hc, if_false] at hexec ⊢
    exact ⟨_, hexec, advance_goesTo s len⟩

end

/-! ### Operands -/

/-- SP is the register that R14 names. -/
theorem reg_fourteen (s : State) : s.reg 14 = s.sp := rfl

/-- An offset in words counts four bytes each. -/
theorem scaled_two (n : Nat) : scaled n 2 = BitVec.ofNat 32 (4 * n) := congrArg (BitVec.ofNat 32) (Nat.mul_comm n 4)

/-- Scaling an index register by `2 ^ k` is multiplication, modulo 2^32 on both sides. -/
theorem shiftLeft_eq_mul (a : Word) (k : Nat) : a <<< k = BitVec.ofNat 32 (2 ^ k) * a := by
  rw [BitVec.shiftLeft_eq_mul_twoPow, BitVec.mul_comm]
  congr 1
  exact BitVec.eq_of_toNat_eq (by simp)

/-! ### The carry -/

theorem carry_eq_toNat (c : Bool) : carry c = c.toNat := by cases c <;> rfl

/-- The 33-bit number that ADDC leaves, C its top bit, is the sum (40_addsub.md rule R154). -/
theorem addCarry_exact (a b : Word) (c : Bool) :
    (addCarry a b c).1.toNat + 2 ^ 32 * (addCarry a b c).2.toNat = a.toNat + b.toNat + c.toNat := by
  have ha := a.isLt
  have hb := b.isLt
  have hc := c.toNat_le
  simp only [addCarry, carry_eq_toNat, BitVec.toNat_ofNat]
  by_cases hover : 2 ^ 32 ≤ a.toNat + b.toNat + c.toNat
  · rw [decide_eq_true hover, Bool.toNat_true]
    omega
  · rw [decide_eq_false hover, Bool.toNat_false]
    omega

/-- What SUBC leaves, less 2^32 where C reports a borrow, is the difference (40_addsub.md rule R164). -/
theorem subCarry_exact (a b : Word) (c : Bool) :
    ((subCarry a b c).1.toNat : Int) - 2 ^ 32 * (1 - (subCarry a b c).2.toNat) =
      a.toNat - b.toNat - (1 - c.toNat) := by
  have ha := a.isLt
  have hb := b.isLt
  have hc := c.toNat_le
  simp only [subCarry, carry_eq_toNat, BitVec.toNat_ofInt]
  by_cases hborrow : (0 : Int) ≤ a.toNat - b.toNat - (1 - c.toNat)
  · rw [decide_eq_true hborrow, Bool.toNat_true]
    omega
  · rw [decide_eq_false hborrow, Bool.toNat_false]
    omega

end Sys2Proof.Machine
end

section
/-! SUPPORT. The add and subtract instructions (40_addsub.md), and the conditional moves. -/

namespace Sys2Proof.Machine

/-- Settles O6: each addition is `binary` or `unary` on its operands; an index is scaled by a shift, SP is R14. -/
theorem addResults : Obligations.add_results := by
  intro s rz rx ry n hz hx hy
  have scaledIndex (k : Nat) (m : Word) (hm : BitVec.ofNat 32 (2 ^ k) = m) :
      s.reg rx + s.reg ry <<< k = s.reg rx + m * s.reg ry := by rw [shiftLeft_eq_mul, hm]
  have spOffset : s.reg 14 + scaled n 2 = s.sp + BitVec.ofNat 32 (4 * n) := by rw [reg_fourteen, scaled_two]
  exact ⟨binary_completes (· + ·) rfl rfl hz hz hx,
    binary_completes (· + ·) rfl rfl hz hx hy,
    binary_completes (· + ·) rfl rfl hz hx hy,
    unary_completes (· + oimm n) rfl rfl hz hz,
    unary_completes (· + oimm n) rfl rfl hz hx,
    unary_completes (· + oimm n) rfl rfl hz hx,
    unary_completes (· + scaled n 2) rfl spOffset hz rfl,
    unary_completes (· + scaled n 2) rfl spOffset rfl rfl,
    binary_completes (· + · <<< 1) rfl (scaledIndex 1 2 rfl) hz hx hy,
    binary_completes (· + · <<< 2) rfl (scaledIndex 2 4 rfl) hz hx hy⟩

/-- Settles O7: each subtraction is `binary` or `unary` on its operands, those of RSUB exchanged. -/
theorem subtractResults : Obligations.subtract_results := by
  intro s rz rx ry n hz hx hy
  have spOffset : s.reg 14 - scaled n 2 = s.sp - BitVec.ofNat 32 (4 * n) := by rw [reg_fourteen, scaled_two]
  exact ⟨binary_completes (· - ·) rfl rfl hz hz hx,
    binary_completes (· - ·) rfl rfl hz hx hy,
    binary_completes (· - ·) rfl rfl hz hx hy,
    binary_completes (· - ·) rfl rfl hz hy hx,
    unary_completes (· - oimm n) rfl rfl hz hz,
    unary_completes (· - oimm n) rfl rfl hz hx,
    unary_completes (· - oimm n) rfl rfl hz hx,
    unary_completes (· - scaled n 2) rfl spOffset rfl rfl⟩

/-- Settles O8: each runs `addCarry` or `subCarry`, which are exact as 33-bit numbers. -/
theorem carryResults : Obligations.carry_results := by
  intro s rz rx ry hz hx hy
  exact ⟨⟨_, _, binaryC_completes addCarry rfl hz hz hx, addCarry_exact _ _ _⟩,
    ⟨_, _, binaryC_completes addCarry rfl hz hx hy, addCarry_exact _ _ _⟩,
    ⟨_, _, binaryC_completes subCarry rfl hz hz hx, subCarry_exact _ _ _⟩,
    ⟨_, _, binaryC_completes subCarry rfl hz hx hy, subCarry_exact _ _ _⟩⟩

/-- Settles O9: each is `conditional` on the value of C that it tests. -/
theorem conditionalResults : Obligations.conditional_results := by
  intro s rz rx n hz hx
  exact ⟨conditional_completes false (· + imm n) rfl rfl hz hx,
    conditional_completes true (· + imm n) rfl rfl hz hx,
    conditional_completes false (· - imm n) rfl rfl hz hx,
    conditional_completes true (· - imm n) rfl rfl hz hx,
    conditional_completes false (fun a => a) rfl rfl hz hx,
    conditional_completes true (fun a => a) rfl rfl hz hx⟩

end Sys2Proof.Machine
end

section
/-! SUPPORT. The words that the spec prints as examples. -/

namespace Sys2Proof.Encoding

/-- Settles O3: the decoder runs on ten words. -/
theorem exampleWordsDecode : Obligations.example_words_decode := by
  unfold Obligations.example_words_decode
  decide

end Sys2Proof.Encoding
end

section
/-! SUPPORT. The logic instructions (41_logic.md). -/

namespace Sys2Proof.Machine

/-- Settles O10: each form is `binary` on its registers or `unary` beside a zero-extended immediate; NOT has one
operand. -/
theorem logicResults : Obligations.logic_results := by
  intro s rz rx ry n hz hx hy
  exact ⟨binary_completes (· &&& ·) rfl rfl hz hz hx,
    binary_completes (· &&& ·) rfl rfl hz hx hy,
    unary_completes (· &&& imm n) rfl rfl hz hx,
    binary_completes (fun a b => a &&& ~~~b) rfl rfl hz hz hx,
    binary_completes (fun a b => a &&& ~~~b) rfl rfl hz hx hy,
    unary_completes (· &&& ~~~(imm n)) rfl rfl hz hx,
    binary_completes (· ||| ·) rfl rfl hz hz hx,
    binary_completes (· ||| ·) rfl rfl hz hx hy,
    unary_completes (· ||| imm n) rfl rfl hz hx,
    binary_completes (· ^^^ ·) rfl rfl hz hz hx,
    binary_completes (· ^^^ ·) rfl rfl hz hx hy,
    unary_completes (· ^^^ imm n) rfl rfl hz hx,
    binary_completes (fun a b => ~~~(a ||| b)) rfl rfl hz hz hx,
    binary_completes (fun a b => ~~~(a ||| b)) rfl rfl hz hx hy,
    unary_completes (~~~ ·) rfl rfl hz hz,
    unary_completes (~~~ ·) rfl rfl hz hx⟩

end Sys2Proof.Machine
end

section
/-! SUPPORT. The shift and rotate instructions (42_shift.md): what each operator leaves as a number, or bit by bit. -/

namespace Sys2Proof.Machine

/-- An operation on one register and C writes its result and C, and nothing else. -/
theorem unaryC_completes {i : Instr} {s : State} {len rz rx : Nat} (f : Word → Bool → Word × Bool)
    (hi : exec i s = s.unaryC len rz rx f) (hz : s.hasReg rz = true) (hx : s.hasReg rx = true) :
    Completes i s (WritesC s · rz (f (s.reg rx) s.psrC).1 (f (s.reg rx) s.psrC).2 len) :=
  ⟨_, hi.trans (withRegs_two _ hz hx), resultC_writesC s len rz _ _ hz⟩

/-! ### Shifts as arithmetic -/

/-- The low six bits of a register as a number (42_shift.md rule R210). -/
theorem shiftCount_eq (b : Word) : shiftCount b = b.toNat % 64 := by
  simp [shiftCount, BitVec.extractLsb'_toNat]

theorem shiftLeft_toNat_if (a : Word) (n : Nat) :
    (shiftLeft a n).toNat = if 31 < n then 0 else a.toNat * 2 ^ n % 2 ^ 32 := by
  rw [shiftLeft, apply_ite BitVec.toNat, BitVec.toNat_shiftLeft, Nat.shiftLeft_eq]
  rfl

/-- A shift left is a multiplication modulo 2^32, for every count: above 31 the product is a multiple of 2^32. -/
theorem shiftLeft_toNat (a : Word) (n : Nat) : (shiftLeft a n).toNat = a.toNat * 2 ^ n % 2 ^ 32 := by
  rw [shiftLeft_toNat_if]
  split_ifs with h
  · exact (Nat.mod_eq_zero_of_dvd ((Nat.pow_dvd_pow 2 h).mul_left _)).symm
  · rfl

theorem shiftRight_toNat_if (a : Word) (n : Nat) :
    (shiftRight a n).toNat = if 31 < n then 0 else a.toNat / 2 ^ n := by
  rw [shiftRight, apply_ite BitVec.toNat, BitVec.toNat_ushiftRight, Nat.shiftRight_eq_div_pow]
  rfl

/-- A logical shift right is a division, for every count: above 31 the divisor exceeds the word. -/
theorem shiftRight_toNat (a : Word) (n : Nat) : (shiftRight a n).toNat = a.toNat / 2 ^ n := by
  rw [shiftRight_toNat_if]
  split_ifs with h
  · exact (Nat.div_eq_of_lt (a.isLt.trans_le (Nat.pow_le_pow_right two_pos h))).symm
  · rfl

/-- Dividing a signed word by a power of 2 not below its bound leaves its sign alone. -/
theorem toInt_div_two_pow (a : Word) {n : Nat} (h : 31 ≤ n) :
    a.toInt / 2 ^ n = if a.toInt < 0 then -1 else 0 := by
  have hpow : (2 : Int) ^ 31 ≤ 2 ^ n := pow_le_pow_right₀ one_le_two h
  have hlo : -2 ^ 31 ≤ a.toInt := BitVec.le_toInt a
  have hhi : a.toInt < 2 ^ 31 := BitVec.toInt_lt
  split_ifs with hneg
  · exact Int.ediv_eq_neg_one_of_neg_of_le hneg (by omega)
  · exact Int.ediv_eq_zero_of_lt (by omega) (by omega)

/-- An arithmetic shift right is a division rounding down, for every count: from 31 on only the sign is left. -/
theorem shiftRightArith_toInt (a : Word) (n : Nat) : (shiftRightArith a n).toInt = a.toInt / 2 ^ n := by
  have hshift : (shiftRightArith a n).toInt = a.toInt / 2 ^ min n 31 := by
    rw [shiftRightArith, BitVec.toInt_sshiftRight, Int.shiftRight_eq_div_pow]
    norm_cast
  rcases le_total n 31 with h | h
  · rw [hshift, min_eq_left h]
  · rw [hshift, min_eq_right h, toInt_div_two_pow a h, toInt_div_two_pow a le_rfl]

/-! ### Rotations bit by bit -/

/-- A rotation left by up to 31 moves bit `k` to bit `k + n` modulo 32 (42_shift.md rule R228). -/
theorem rotateLeft_getLsbD (a : Word) {n k : Nat} (hn : n < 32) (hk : k < 32) :
    (rotateLeft a n).getLsbD ((k + n) % 32) = a.getLsbD k := by
  have hrot : rotateLeft a n = a.rotateLeft n := (BitVec.rotateLeft_eq_rotateLeftAux_of_lt hn).symm
  rw [hrot, BitVec.getLsbD_rotateLeft, Nat.mod_eq_of_lt hn]
  rcases Nat.lt_or_ge (k + n) 32 with hfit | hwrap
  · have hpos : (k + n) % 32 = k + n := Nat.mod_eq_of_lt hfit
    simp [hpos, hfit]
  · have hpos : (k + n) % 32 = k + n - 32 := by omega
    have hlow : k + n - 32 < n := by omega
    have hsrc : 32 - n + (k + n - 32) = k := by omega
    simp [hpos, hlow, hsrc]

/-- A register-count rotation moves bit `k` to bit `k + n` modulo 32, and leaves 0 for counts above 31 (rule R226). -/
theorem rotateLeftReg_getLsbD (a : Word) (n : Nat) {k : Nat} (hk : k < 32) :
    (rotateLeftReg a n).getLsbD ((k + n) % 32) = (decide (n ≤ 31) && a.getLsbD k) := by
  rw [rotateLeftReg]
  split_ifs with h
  · simp [Nat.not_le.mpr h]
  · have hn : n ≤ 31 := Nat.not_lt.mp h
    rw [rotateLeft_getLsbD a (Nat.lt_succ_of_le hn) hk, decide_eq_true hn, Bool.true_and]

/-- The 33 bits {RX, C}: bit 0 is C, and the bits of RX are above it. -/
theorem getLsbD_append_carry (a : Word) (c : Bool) (j : Nat) :
    (a ++ BitVec.ofBool c).getLsbD j = if j = 0 then c else a.getLsbD (j - 1) := by
  rw [BitVec.getLsbD_append]
  by_cases hj : j = 0 <;> simp [hj]

/-- A rotation right by less than the width moves bit `j + n` modulo the width to bit `j`. -/
theorem getLsbD_rotateRight_mod {w : Nat} (v : BitVec w) {n j : Nat} (hn : n < w) (hj : j < w) :
    (v.rotateRight n).getLsbD j = v.getLsbD ((j + n) % w) := by
  rw [BitVec.getLsbD_rotateRight, Nat.mod_eq_of_lt hn]
  rcases Nat.lt_or_ge (j + n) w with hfit | hwrap
  · have hlow : j < w - n := by omega
    simp [hlow, Nat.mod_eq_of_lt hfit, Nat.add_comm n j]
  · have hhigh : ¬ j < w - n := by omega
    have hsrc : (j + n) % w = j - (w - n) := by
      rw [Nat.mod_eq_sub_mod hwrap, Nat.mod_eq_of_lt (by omega)]
      omega
    simp [hhigh, hj, hsrc]

/-- XSR rotates {RX, C} right as one number of 33 bits (rule R229). -/
theorem rotateRightC_eq_rotateRight (a : Word) {n : Nat} (c : Bool) (hn : n < 33) :
    rotateRightC a n c = (((a ++ BitVec.ofBool c).rotateRight n).extractLsb' 1 32,
      ((a ++ BitVec.ofBool c).rotateRight n).getLsbD 0) := by
  rw [BitVec.rotateRight_eq_rotateRightAux_of_lt hn]
  rfl

theorem rotateRightC_result (a : Word) {n k : Nat} (c : Bool) (hn : n < 33) (hk : k < 32) :
    (rotateRightC a n c).1.getLsbD k =
      if (k + n + 1) % 33 = 0 then c else a.getLsbD ((k + n + 1) % 33 - 1) := by
  rw [rotateRightC_eq_rotateRight a c hn, BitVec.getLsbD_extractLsb', decide_eq_true hk, Bool.true_and,
    getLsbD_rotateRight_mod _ hn (by omega), getLsbD_append_carry, show 1 + k + n = k + n + 1 by omega]

theorem rotateRightC_carry (a : Word) {n : Nat} (c : Bool) (hn : n < 32) :
    (rotateRightC a (n + 1) c).2 = a.getLsbD n := by
  rw [rotateRightC_eq_rotateRight a c (by omega), getLsbD_rotateRight_mod _ (by omega) (by omega),
    getLsbD_append_carry, Nat.zero_add, Nat.mod_eq_of_lt (by omega)]
  simp

/-! ### The instructions -/

/-- Settles O11: each form is `binary` with the count `shiftCount`, the low six bits of the count register. -/
theorem registerShiftResults : Obligations.register_shift_results := by
  intro s rz rx ry hz hx hy
  have lsl (a b : Word) : (shiftLeft a (shiftCount b)).toNat =
      if 31 < b.toNat % 64 then 0 else a.toNat * 2 ^ (b.toNat % 64) % 2 ^ 32 :=
    shiftCount_eq b ▸ shiftLeft_toNat_if a _
  have lsr (a b : Word) : (shiftRight a (shiftCount b)).toNat =
      if 31 < b.toNat % 64 then 0 else a.toNat / 2 ^ (b.toNat % 64) :=
    shiftCount_eq b ▸ shiftRight_toNat_if a _
  have asr (a b : Word) : (shiftRightArith a (shiftCount b)).toInt = a.toInt / 2 ^ (b.toNat % 64) :=
    shiftCount_eq b ▸ shiftRightArith_toInt a _
  have rotl (a b : Word) : ∀ k < 32, (rotateLeftReg a (shiftCount b)).getLsbD ((k + b.toNat % 64) % 32) =
      (decide (b.toNat % 64 ≤ 31) && a.getLsbD k) :=
    shiftCount_eq b ▸ fun _ hk => rotateLeftReg_getLsbD a _ hk
  exact ⟨⟨_, binary_completes (fun a b => shiftLeft a (shiftCount b)) rfl rfl hz hz hx, lsl _ _⟩,
    ⟨_, binary_completes (fun a b => shiftLeft a (shiftCount b)) rfl rfl hz hx hy, lsl _ _⟩,
    ⟨_, binary_completes (fun a b => shiftRight a (shiftCount b)) rfl rfl hz hz hx, lsr _ _⟩,
    ⟨_, binary_completes (fun a b => shiftRight a (shiftCount b)) rfl rfl hz hx hy, lsr _ _⟩,
    ⟨_, binary_completes (fun a b => shiftRightArith a (shiftCount b)) rfl rfl hz hz hx, asr _ _⟩,
    ⟨_, binary_completes (fun a b => shiftRightArith a (shiftCount b)) rfl rfl hz hx hy, asr _ _⟩,
    ⟨_, binary_completes (fun a b => rotateLeftReg a (shiftCount b)) rfl rfl hz hz hx, rotl _ _⟩,
    ⟨_, binary_completes (fun a b => rotateLeftReg a (shiftCount b)) rfl rfl hz hx hy, rotl _ _⟩⟩

/-- Settles O12: each form is `unary` with the count in the instruction. -/
theorem immediateShiftResults : Obligations.immediate_shift_results := by
  intro s rz rx n hz hx hn
  exact ⟨⟨_, unary_completes (shiftLeft · n) rfl rfl hz hx, shiftLeft_toNat _ n⟩,
    ⟨_, unary_completes (shiftLeft · n) rfl rfl hz hx, shiftLeft_toNat _ n⟩,
    ⟨_, unary_completes (shiftRight · n) rfl rfl hz hx, shiftRight_toNat _ n⟩,
    ⟨_, unary_completes (shiftRight · n) rfl rfl hz hx, shiftRight_toNat _ n⟩,
    ⟨_, unary_completes (shiftRightArith · n) rfl rfl hz hx, shiftRightArith_toInt _ n⟩,
    ⟨_, unary_completes (shiftRightArith · n) rfl rfl hz hx, shiftRightArith_toInt _ n⟩,
    ⟨_, unary_completes (rotateLeft · n) rfl rfl hz hx, fun _ hk => rotateLeft_getLsbD _ hn hk⟩⟩

/-- Settles O13: each form is `unaryC` with the count `n + 1`; XSR rotates 33 bits, C the lowest of them. -/
theorem shiftIntoCarryResults : Obligations.shift_into_carry_results := by
  intro s rz rx n hz hx hn
  have lastOut : (s.reg rx).getLsbD (32 - (n + 1)) = (s.reg rx).getLsbD (31 - n) :=
    congrArg _ (Nat.succ_sub_succ 31 n)
  exact ⟨⟨_, _, unaryC_completes (fun a _ => shiftLeftC a (n + 1)) rfl hz hx, shiftLeft_toNat _ _, lastOut⟩,
    ⟨_, _, unaryC_completes (fun a _ => shiftRightC a (n + 1)) rfl hz hx, shiftRight_toNat _ _, rfl⟩,
    ⟨_, _, unaryC_completes (fun a _ => shiftRightArithC a (n + 1)) rfl hz hx, shiftRightArith_toInt _ _, rfl⟩,
    ⟨_, _, unaryC_completes (fun a c => rotateRightC a (n + 1) c) rfl hz hx, rotateRightC_carry _ _ hn,
      fun _ hk => rotateRightC_result _ _ (Nat.succ_lt_succ hn) hk⟩⟩

end Sys2Proof.Machine
end

section
/-! SUPPORT. The compare and test instructions (43_compare.md). -/

namespace Sys2Proof.Machine

section
variable {i : Instr} {s : State} {len rx ry : Nat} {c : Bool}

/-- A comparison of two registers sets C and changes nothing else. -/
theorem compare_completes (p : Word → Word → Bool) (hi : exec i s = s.compare len rx ry p)
    (hc : p (s.reg rx) (s.reg ry) = c) (hx : s.hasReg rx = true) (hy : s.hasReg ry = true) :
    Completes i s (SetsC s · c len) := by
  subst hc
  exact ⟨_, hi.trans (withRegs_two _ hx hy), condition_setsC s len _⟩

/-- A test of one register sets C and changes nothing else. -/
theorem test_completes (p : Word → Bool) (hi : exec i s = s.test len rx p) (hc : p (s.reg rx) = c)
    (hx : s.hasReg rx = true) : Completes i s (SetsC s · c len) := by
  subst hc
  exact ⟨_, hi.trans (withRegs_one _ hx), condition_setsC s len _⟩

end

/-! ### Immediates as numbers: no field of 16 bits wraps or reaches the sign bit -/

theorem imm_toNat {n : Nat} (hn : n < 65536) : (imm n).toNat = n := Nat.mod_eq_of_lt (by omega)

theorem oimm_toNat {n : Nat} (hn : n < 65536) : (oimm n).toNat = n + 1 := Nat.mod_eq_of_lt (by omega)

theorem oimm_toInt {n : Nat} (hn : n < 65536) : (oimm n).toInt = (n : Int) + 1 := by
  have hpos : 2 * (oimm n).toNat < 2 ^ 32 := by rw [oimm_toNat hn]; omega
  rw [BitVec.toInt_eq_toNat_of_lt hpos, oimm_toNat hn, Nat.cast_succ]

/-! ### The tests as propositions about numbers -/

theorem bne_eq_decide_ne {w : Nat} (a b : BitVec w) : (a != b) = decide (a ≠ b) := decide_not.symm

theorem bne_eq_decide_toNat_ne {w : Nat} (a b : BitVec w) : (a != b) = decide (a.toNat ≠ b.toNat) :=
  (bne_eq_decide_ne a b).trans (decide_eq_decide.mpr BitVec.toNat_ne_iff_ne.symm)

theorem geU_oimm (a : Word) {n : Nat} (hn : n < 65536) : geU a (oimm n) = decide (n + 1 ≤ a.toNat) := by
  rw [geU, oimm_toNat hn]

theorem ltS_oimm (a : Word) {n : Nat} (hn : n < 65536) : ltS a (oimm n) = decide (a.toInt < (n : Int) + 1) := by
  rw [ltS, oimm_toInt hn]

theorem bne_imm (a : Word) {n : Nat} (hn : n < 65536) : (a != imm n) = decide (a.toNat ≠ n) := by
  rw [bne_eq_decide_toNat_ne, imm_toNat hn]

/-- Byte `k` of a word is its digit `k` in base 256. -/
theorem byteOf_toNat (a : Word) (k : Nat) : (byteOf a k).toNat = a.toNat / 256 ^ k % 256 := by
  rw [byteOf, BitVec.extractLsb'_toNat, Nat.shiftRight_eq_div_pow, pow_mul]
  rfl

theorem byteOf_bne_zero (a : Word) (k : Nat) : (byteOf a k != 0) = decide (a.toNat / 256 ^ k % 256 ≠ 0) := by
  rw [bne_eq_decide_toNat_ne, byteOf_toNat]
  rfl

/-- TSTNBZ tests the four bytes, the most significant first (43_compare.md rule R251). -/
theorem noByteZero_eq_decide (a : Word) :
    noByteZero a = decide (∀ k < 4, a.toNat / 256 ^ k % 256 ≠ 0) := by
  rw [Bool.eq_iff_iff, decide_eq_true_iff]
  simp only [noByteZero, byteOf_bne_zero, Bool.and_eq_true, decide_eq_true_eq]
  constructor
  · rintro ⟨⟨⟨h3, h2⟩, h1⟩, h0⟩ k hk
    interval_cases k <;> assumption
  · intro h
    exact ⟨⟨⟨h 3 (by decide), h 2 (by decide)⟩, h 1 (by decide)⟩, h 0 (by decide)⟩

/-! ### The instructions -/

/-- Settles O14: each form is `compare` on its registers or `test` against an immediate, whose zero extension is its
value as a number, signed or not. -/
theorem compareResults : Obligations.compare_results := by
  intro s rx ry n hx hy hn
  exact ⟨compare_completes geU rfl rfl hx hy,
    test_completes (geU · (oimm n)) rfl (geU_oimm _ hn) hx,
    test_completes (geU · (oimm n)) rfl (geU_oimm _ hn) hx,
    compare_completes ltS rfl rfl hx hy,
    test_completes (ltS · (oimm n)) rfl (ltS_oimm _ hn) hx,
    test_completes (ltS · (oimm n)) rfl (ltS_oimm _ hn) hx,
    compare_completes (· != ·) rfl (bne_eq_decide_ne _ _) hx hy,
    test_completes (· != imm n) rfl (bne_imm _ hn) hx,
    test_completes (· != imm n) rfl (bne_imm _ hn) hx,
    compare_completes (fun a b => (a &&& b) != 0) rfl (bne_eq_decide_ne _ _) hx hy,
    test_completes noByteZero rfl (noByteZero_eq_decide _) hx⟩

end Sys2Proof.Machine
end

section
/-! SUPPORT. The data transfer instructions (44_transfer.md): the values that they write, and loads that are allowed. -/

namespace Sys2Proof.Machine

section
variable {i : Instr} {s : State} {len rz : Nat} {v : Word}

/-- An instruction that reads no register writes its value and nothing else. -/
theorem value_completes (x : Word) (hi : exec i s = s.withRegs [rz] (s.result len rz x)) (hv : x = v)
    (hz : s.hasReg rz = true) : Completes i s (Writes s · rz v len) := by
  subst hv
  exact ⟨_, hi.trans (withRegs_one _ hz), result_writes s len rz _ hz⟩

/-- A load that is allowed writes the extended value of memory and nothing else: it is not made through the cache. -/
theorem load_completes {a : Word} {w : Width} {sp : Bool} (ext : Word → Word)
    (hi : exec i s = s.load len rz a w sp ext) (hv : ext (s.mem.load s.cfg.bigEndian a w) = v)
    (hz : s.hasReg rz = true) (ha : Allowed s a w .read sp) : Completes i s (Writes s · rz v len) := by
  subst hv
  have hload := load_ok s len rz a w sp ext _ (readData_allowed s a w false sp ha)
  rw [afterRead_allowed s a w false sp ha] at hload
  exact ⟨_, hi.trans hload, result_writes s len rz _ hz⟩

end

/-! ### The values -/

theorem boolWord_eq_toNat (c : Bool) : boolWord c = BitVec.ofNat 32 c.toNat := by cases c <;> rfl

theorem boolWord_not (c : Bool) : boolWord (!c) = BitVec.ofNat 32 (1 - c.toNat) := by
  cases c <;> rfl

/-- An immediate shifted left is a multiple of it. -/
theorem imm_shiftLeft (n k : Nat) : imm n <<< k = BitVec.ofNat 32 (n * 2 ^ k) := by
  rw [shiftLeft_eq_mul, BitVec.mul_comm, imm, BitVec.ofNat_mul]

/-- A signed field that counts halfwords stands for twice its number (30_encoding.md rule R135 d). -/
theorem relOffset_eq_ofInt {w n : Nat} (hw : 0 < w) (hn : n < 2 ^ w) :
    relOffset w n = BitVec.ofInt 32 (2 * signedField w n) := by
  obtain ⟨k, rfl⟩ := Nat.exists_eq_succ_of_ne_zero hw.ne'
  have hdouble : (BitVec.ofNat (k + 1 + 1) (2 * n)).toNat = 2 * n := Nat.mod_eq_of_lt (by omega)
  refine congrArg (BitVec.ofInt 32) ?_
  rw [BitVec.toInt_eq_toNat_cond, hdouble, signedField, Nat.succ_sub_one]
  push_cast
  split <;> split <;> omega

/-! ### The addresses of literals (rules R270, R271) -/

theorem literalAddr_eq (s : State) (off : Nat) :
    s.literalAddr off = (s.pc + BitVec.ofNat 32 (4 * off)) &&& 0xFFFFFFFC := by
  rw [State.literalAddr, scaled_two]

/-- With IMM1 = 0 the offset goes on from 128 with the complement of IMM7. -/
theorem lrw16Offset_eq {imm7 : Nat} (imm1 : Nat) (h : imm7 < 128) :
    lrw16Offset imm1 imm7 = if imm1 = 1 then imm7 else 255 - imm7 := by
  rw [lrw16Offset, show 128 + (127 - imm7) = 255 - imm7 by omega]

/-! ### The instructions -/

/-- Settles O15: a move is `unary` on its register, every other form writes a value made of its field, C or the PC. -/
theorem transferResults : Obligations.transfer_results := by
  intro s rz rx n hz hx
  exact ⟨unary_completes (fun a => a) rfl rfl hz hx,
    unary_completes (fun a => a) rfl rfl hz hx,
    value_completes (imm n) rfl rfl hz,
    value_completes (imm n) rfl rfl hz,
    value_completes (imm n <<< 16) rfl (imm_shiftLeft n 16) hz,
    value_completes (boolWord s.psrC) rfl (boolWord_eq_toNat _) hz,
    value_completes (boolWord (!s.psrC)) rfl (boolWord_not _) hz,
    fun hn => value_completes (s.relTarget 18 n) rfl
      (congrArg (s.pc + ·) (relOffset_eq_ofInt (by decide) hn)) hz⟩

/-- Settles O23: each form is a load of the word at its literal's address. -/
theorem literalLoadResults : Obligations.literal_load_results := by
  intro s rz imm7 off hz himm7 _
  refine ⟨?lrw16, ?lrw32⟩
  case lrw16 =>
    rintro imm1 _ rfl ha
    rw [← lrw16Offset_eq imm1 himm7, ← literalAddr_eq] at ha ⊢
    exact load_completes (fun v => v) (withRegs_one _ hz) rfl hz ha
  case lrw32 =>
    rintro _ rfl ha
    rw [← literalAddr_eq] at ha ⊢
    exact load_completes (fun v => v) (withRegs_one _ hz) rfl hz ha

end Sys2Proof.Machine
end

section
/-! SUPPORT. The bit, extract, byte-reverse, find-first and multiply instructions (45_bitops.md). -/

namespace Sys2Proof.Machine

/-! ### Words with one bit or the low bits set -/

theorem oneBit_eq_twoPow (n : Nat) : oneBit n = BitVec.twoPow 32 n := rfl

theorem getLsbD_oneBit (n : Nat) {k : Nat} (hk : k < 32) : (oneBit n).getLsbD k = decide (k = n) := by
  have hbits : (n < 32 ∧ n = k) ↔ k = n := by omega
  rw [oneBit_eq_twoPow, BitVec.getLsbD_twoPow, ← Bool.decide_and, decide_eq_decide.mpr hbits]

theorem getLsbD_clearBit (a : Word) (n : Nat) {k : Nat} (hk : k < 32) :
    (a &&& ~~~(oneBit n)).getLsbD k = (a.getLsbD k && decide (k ≠ n)) := by
  rw [BitVec.getLsbD_and, BitVec.getLsbD_not, getLsbD_oneBit n hk, decide_eq_true hk, Bool.true_and, decide_not]

theorem getLsbD_or_oneBit (a : Word) (n : Nat) {k : Nat} (hk : k < 32) :
    (a ||| oneBit n).getLsbD k = (a.getLsbD k || decide (k = n)) := by
  rw [BitVec.getLsbD_or, getLsbD_oneBit n hk]

theorem maskTo_eq_lowMask (n : Nat) : maskTo n = lowMask (n + 1) := rfl

theorem getLsbD_maskTo (n : Nat) {k : Nat} (hk : k < 32) : (maskTo n).getLsbD k = decide (k ≤ n) := by
  rw [maskTo_eq_lowMask, getLsbD_lowMask, decide_eq_true hk, Bool.and_true, decide_eq_decide.mpr Nat.lt_succ_iff]

/-! ### Bytes and halfwords -/

/-- XTRB gives the digit `i` of the word in base 256 (rules R291 to R294). -/
theorem extractByte_toNat (a : Word) (i : Nat) : (extractByte a i).1.toNat = a.toNat / 256 ^ i % 256 :=
  (BitVec.toNat_setWidth_of_le (by decide)).trans (byteOf_toNat a i)

theorem extractByte_carry (a : Word) (i : Nat) : (extractByte a i).2 = true ↔ (extractByte a i).1 ≠ 0 := by
  have hcarry : (extractByte a i).2 = decide ((extractByte a i).1.toNat ≠ (0 : Word).toNat) :=
    extractByte_toNat a i ▸ byteOf_bne_zero a i
  rw [hcarry, decide_eq_true_iff, BitVec.toNat_ne_iff_ne]

theorem extractLsb'_zero_toNat (a : Word) (w : Nat) : (a.extractLsb' 0 w).toNat = a.toNat % 2 ^ w := by
  rw [BitVec.extractLsb'_toNat, Nat.shiftRight_zero]

theorem zextByte_toNat (a : Word) : (zextByte a).toNat = a.toNat % 256 :=
  (BitVec.toNat_setWidth_of_le (by decide)).trans (extractLsb'_zero_toNat a 8)

theorem zextHalf_toNat (a : Word) : (zextHalf a).toNat = a.toNat % 65536 :=
  (BitVec.toNat_setWidth_of_le (by decide)).trans (extractLsb'_zero_toNat a 16)

/-- A bit vector as a signed number is the signed field of its bits. -/
theorem toInt_eq_signedField {w : Nat} (hw : 0 < w) (v : BitVec w) : v.toInt = signedField w v.toNat := by
  obtain ⟨k, rfl⟩ := Nat.exists_eq_succ_of_ne_zero hw.ne'
  rw [BitVec.toInt_eq_toNat_cond, signedField, Nat.succ_sub_one]
  push_cast
  split <;> split <;> omega

theorem sextByte_toInt (a : Word) : (sextByte a).toInt = signedField 8 (a.toNat % 256) := by
  rw [sextByte, BitVec.toInt_signExtend_of_le (by decide), toInt_eq_signedField (by decide)]
  exact congrArg (signedField 8) (extractLsb'_zero_toNat a 8)

theorem sextHalf_toInt (a : Word) : (sextHalf a).toInt = signedField 16 (a.toNat % 65536) := by
  rw [sextHalf, BitVec.toInt_signExtend_of_le (by decide), toInt_eq_signedField (by decide)]
  exact congrArg (signedField 16) (extractLsb'_zero_toNat a 16)

/-! ### Bytes put in another order -/

theorem getLsbD_byteOf (a : Word) (i : Nat) {j : Nat} (hj : j < 8) :
    (byteOf a i).getLsbD j = a.getLsbD (8 * i + j) := by
  rw [byteOf, BitVec.getLsbD_extractLsb', decide_eq_true hj, Bool.true_and]

/-- Bit `k` of a word lies in byte `k / 8`, at place `k % 8`. -/
theorem getLsbD_eq_byteOf (a : Word) (k : Nat) : a.getLsbD k = (byteOf a (k / 8)).getLsbD (k % 8) := by
  rw [getLsbD_byteOf a _ (Nat.mod_lt k (by decide)), Nat.div_add_mod]

/-- A word made of the bytes of `a`, byte `k` of it being byte `src k` of `a`, moves the bits with their bytes. -/
theorem getLsbD_permuteBytes (a : Word) (src : Nat → Nat) {k : Nat} (hk : k < 32) :
    (wordOfBytes fun i => byteOf a (src i)).getLsbD k = a.getLsbD (8 * src (k / 8) + k % 8) := by
  have hbyte : byteOf (wordOfBytes fun i => byteOf a (src i)) (k / 8) = byteOf a (src (k / 8)) :=
    wordOfBytes_byte _ (by omega)
  rw [getLsbD_eq_byteOf, hbyte, getLsbD_byteOf _ _ (Nat.mod_lt k (by decide))]

/-- REVB takes byte `3 - i` to byte `i` (rule R301). -/
theorem reverseBytes_eq (a : Word) : reverseBytes a = wordOfBytes fun i => byteOf a (3 - i) := rfl

/-- REVH exchanges byte `2 * h` with byte `2 * h + 1` (rule R302). -/
theorem reverseHalfBytes_eq (a : Word) :
    reverseHalfBytes a = wordOfBytes fun i => byteOf a (2 * (i / 2) + (1 - i % 2)) := rfl

theorem getLsbD_reverseBytes (a : Word) {k : Nat} (hk : k < 32) :
    (reverseBytes a).getLsbD k = a.getLsbD (24 - k / 8 * 8 + k % 8) := by
  rw [reverseBytes_eq, getLsbD_permuteBytes a _ hk]
  congr 1
  omega

theorem getLsbD_reverseHalfBytes (a : Word) {k : Nat} (hk : k < 32) :
    (reverseHalfBytes a).getLsbD k = a.getLsbD (k / 16 * 16 + (8 - k % 16 / 8 * 8) + k % 8) := by
  rw [reverseHalfBytes_eq, getLsbD_permuteBytes a _ hk]
  congr 1
  omega

/-! ### The run of equal leading bits -/

theorem runLength_le (a : Word) (b : Bool) (n : Nat) : runLength a b n ≤ n := by
  induction n with
  | zero => exact le_rfl
  | succ n ih =>
    rw [runLength]
    split <;> omega

/-- Every bit of the run has the value looked for. -/
theorem getLsbD_of_lt_runLength (a : Word) (b : Bool) (n : Nat) :
    ∀ k < runLength a b n, a.getLsbD (n - 1 - k) = b := by
  induction n with
  | zero => exact fun k hk => absurd hk k.not_lt_zero
  | succ n ih =>
    intro k hk
    rw [runLength] at hk
    split at hk
    case isTrue htop =>
      cases k with
      | zero => exact htop
      | succ k =>
        rw [show n + 1 - 1 - (k + 1) = n - 1 - k by omega]
        exact ih k (Nat.lt_of_succ_lt_succ hk)
    case isFalse => exact absurd hk k.not_lt_zero

/-- The bit after a run that ends within the word has the other value. -/
theorem getLsbD_runLength (a : Word) (b : Bool) (n : Nat) (h : runLength a b n < n) :
    a.getLsbD (n - 1 - runLength a b n) = !b := by
  induction n with
  | zero => exact absurd h (Nat.not_lt_zero _)
  | succ n ih =>
    rw [runLength] at h ⊢
    split at h
    case isTrue htop =>
      rw [if_pos htop, show n + 1 - 1 - (runLength a b n + 1) = n - 1 - runLength a b n by omega]
      exact ih (Nat.lt_of_succ_lt_succ h)
    case isFalse htop =>
      rw [if_neg htop]
      exact Bool.eq_not.mpr htop

/-! ### The instructions -/

/-- Settles O18: each form is `binary` with the product modulo 2^32. -/
theorem multiplyResults : Obligations.multiply_results := by
  intro s rz rx ry hz hx hy
  exact ⟨⟨_, binary_completes (· * ·) rfl rfl hz hx hz, BitVec.toNat_mul _ _⟩,
    ⟨_, binary_completes (· * ·) rfl rfl hz hx hy, BitVec.toNat_mul _ _⟩⟩

/-- Settles O16: each form is `unary` or `test` on its register, or writes the word of its bits; `bmaski32` is not
refused from IMM5 = 16 on. -/
theorem bitResults : Obligations.bit_results := by
  intro s rz rx n hz hx _
  exact ⟨⟨_, unary_completes (· &&& ~~~(oneBit n)) rfl rfl hz hz, fun _ => getLsbD_clearBit _ n⟩,
    ⟨_, unary_completes (· &&& ~~~(oneBit n)) rfl rfl hz hx, fun _ => getLsbD_clearBit _ n⟩,
    ⟨_, unary_completes (· ||| oneBit n) rfl rfl hz hz, fun _ => getLsbD_or_oneBit _ n⟩,
    ⟨_, unary_completes (· ||| oneBit n) rfl rfl hz hx, fun _ => getLsbD_or_oneBit _ n⟩,
    test_completes (·.getLsbD n) rfl rfl hx,
    test_completes (·.getLsbD n) rfl rfl hx,
    ⟨_, value_completes (oneBit n) rfl rfl hz, fun _ => getLsbD_oneBit n⟩,
    fun hn => ⟨_, value_completes (maskTo n) (congrArg (s.withRegs [rz]) (if_neg hn.not_gt)) rfl hz,
      fun _ => getLsbD_maskTo n⟩⟩

/-- Settles O17: each form is `unary`, or `unaryC` for XTRB; the count of FF0 and FF1 is the run of ones or zeros from
bit 31 down. -/
theorem extractResults : Obligations.extract_results := by
  intro s rz rx hz hx
  exact ⟨⟨_, _, unaryC_completes (fun a _ => extractByte a 3) rfl hz hx, extractByte_toNat _ 3, extractByte_carry _ 3⟩,
    ⟨_, _, unaryC_completes (fun a _ => extractByte a 2) rfl hz hx, extractByte_toNat _ 2, extractByte_carry _ 2⟩,
    ⟨_, _, unaryC_completes (fun a _ => extractByte a 1) rfl hz hx, extractByte_toNat _ 1, extractByte_carry _ 1⟩,
    ⟨_, _, unaryC_completes (fun a _ => extractByte a 0) rfl hz hx, extractByte_toNat _ 0, extractByte_carry _ 0⟩,
    ⟨_, unary_completes zextByte rfl rfl hz hx, zextByte_toNat _⟩,
    ⟨_, unary_completes zextHalf rfl rfl hz hx, zextHalf_toNat _⟩,
    ⟨_, unary_completes sextByte rfl rfl hz hx, sextByte_toInt _⟩,
    ⟨_, unary_completes sextHalf rfl rfl hz hx, sextHalf_toInt _⟩,
    ⟨_, runLength_le _ true 32, unary_completes findFirst0 rfl rfl hz hx, getLsbD_of_lt_runLength _ true 32,
      getLsbD_runLength _ true 32⟩,
    ⟨_, runLength_le _ false 32, unary_completes findFirst1 rfl rfl hz hx, getLsbD_of_lt_runLength _ false 32,
      getLsbD_runLength _ false 32⟩,
    ⟨_, unary_completes reverseBytes rfl rfl hz hx, fun _ => getLsbD_reverseBytes _⟩,
    ⟨_, unary_completes reverseHalfBytes rfl rfl hz hx, fun _ => getLsbD_reverseHalfBytes _⟩⟩

end Sys2Proof.Machine
end

section
/-! SUPPORT. The branch and jump instructions (46_branch.md): where a control transfer goes, and that it changes nothing
else. -/

namespace Sys2Proof.Machine

section
variable {i : Instr} {s : State} {len : Nat} {target a : Word}

/-- A control transfer goes to its target with bit 0 dropped and changes nothing else. -/
theorem jump_completes (hi : exec i s = .next (s.jump target)) (ha : evenAddr target = a) :
    Completes i s (GoesTo s · a) := by
  subst ha
  exact ⟨_, hi, jump_goesTo s target⟩

/-- A conditional branch goes to its target where C is the value it tests, and goes on elsewhere. -/
theorem branchIf_completes (c : Bool) (hi : exec i s = s.branchIf c len target) (ha : evenAddr target = a) :
    Completes i s (GoesTo s · (if s.psrC = c then a else s.pc + BitVec.ofNat 32 len)) := by
  subst ha
  refine ⟨_, hi, ?_⟩
  by_cases hc : s.psrC = c
  · simpa only [if_pos hc] using jump_goesTo s target
  · simpa only [if_neg hc] using advance_goesTo s len

/-- A call leaves the next instruction's address in R15 and goes to its target with bit 0 dropped. -/
theorem call_completes (hi : exec i s = s.call len target) (ha : evenAddr target = a) :
    Completes i s (Links s · (s.pc + BitVec.ofNat 32 len) a) := by
  subst ha
  exact ⟨_, hi, link_links s _ target⟩

end

/-! ### Targets -/

/-- Dropping bit 0 leaves an even address as it is. -/
theorem evenAddr_of_even {a : Word} (h : a.getLsbD 0 = false) : evenAddr a = a := by
  have hclear : evenAddr a = a &&& ~~~(oneBit 0) := rfl
  refine BitVec.eq_of_getLsbD_eq fun k hk => ?_
  rw [hclear, getLsbD_clearBit a 0 hk]
  rcases Nat.eq_zero_or_pos k with rfl | hpos
  · rw [h, Bool.false_and]
  · rw [decide_eq_true hpos.ne', Bool.and_true]

/-- An offset in halfwords, forward or back, keeps bit 0 of an address. -/
theorem add_double_even (a : Word) (k : Int) : (a + BitVec.ofInt 32 (2 * k)).getLsbD 0 = a.getLsbD 0 := by
  simp only [BitVec.getLsbD, Nat.testBit_zero, BitVec.toNat_add, BitVec.toNat_ofInt]
  congr 1
  rw [eq_iff_iff]
  omega

/-- The target of a relative branch from an even address is even, so that no bit of it is dropped (46_branch.md rule
R310 a). -/
theorem evenAddr_relTarget {s : State} {w n : Nat} (hpc : s.pc.getLsbD 0 = false) (hw : 0 < w) (hn : n < 2 ^ w) :
    evenAddr (s.relTarget w n) = s.pc + BitVec.ofInt 32 (2 * signedField w n) := by
  rw [State.relTarget, relOffset_eq_ofInt hw hn]
  exact evenAddr_of_even ((add_double_even _ _).trans hpc)

/-- The offset of a JMPIX entry: the low byte of the index times the size of an entry (46_branch.md rule R318). -/
theorem lowByte_mul_jmpixScale (a : Word) (n : Nat) :
    (a &&& 0xFF) * jmpixScale n = BitVec.ofNat 32 (a.toNat % 256 * (16 + 8 * n)) := by
  have hlow : (a &&& 0xFF).toNat = a.toNat % 256 := Nat.and_two_pow_sub_one_eq_mod a.toNat 8
  rw [jmpixScale, BitVec.ofNat_mul, ← hlow, BitVec.ofNat_toNat, BitVec.setWidth_eq]

/-! ### The instructions -/

/-- Settles O19: a branch is `jump` or `branchIf` to its relative target, which is even. -/
theorem branchResults : Obligations.branch_results := by
  intro s n hpc
  refine ⟨fun hn => ?half, fun hn => ?word⟩
  case half =>
    have ha := evenAddr_relTarget hpc (by decide) hn
    exact ⟨jump_completes rfl ha, branchIf_completes true rfl ha, branchIf_completes false rfl ha⟩
  case word =>
    have ha := evenAddr_relTarget hpc (by decide) hn
    exact ⟨jump_completes rfl ha, branchIf_completes true rfl ha, branchIf_completes false rfl ha⟩

/-- Settles O20: each form is `jump` to an address made of its register. -/
theorem jumpResults : Obligations.jump_results := by
  intro s rx n hx _
  refine ⟨jump_completes (withRegs_one _ hx) rfl, jump_completes rfl rfl, fun hbct => ?_⟩
  have hexec : exec (.jmpix16 rx n) s = .next (s.jump (s.svbr + (s.reg rx &&& 0xFF) * jmpixScale n)) := by
    calc exec (.jmpix16 rx n) s
      _ = s.requires s.cfg.bct (s.withRegs [rx] (.next (s.jump (s.svbr + (s.reg rx &&& 0xFF) * jmpixScale n)))) := rfl
      _ = _ := by rw [hbct, requires_configured, withRegs_one _ hx]
  exact jump_completes hexec (congrArg (fun x => evenAddr (s.svbr + x)) (lowByte_mul_jmpixScale _ n))

/-- Settles O21: both forms are `call`; the target of BSR is even. -/
theorem callResults : Obligations.call_results := by
  intro s rx n hx
  exact ⟨call_completes (withRegs_one _ hx) rfl,
    fun hn hpc => call_completes rfl (evenAddr_relTarget hpc (by decide) hn)⟩

end Sys2Proof.Machine
end

section
/-! SUPPORT. The load and store instructions (47_loadstore.md): what sign extension makes of a value of memory, and
stores that are allowed. -/

namespace Sys2Proof.Machine

/-! ### Sign extension -/

/-- Sign extending a byte that was loaded is sign extending the byte of memory. -/
theorem sextByte_load (m : Memory) (be : Bool) (a : Word) :
    sextByte (m.load be a .byte) = (m.byteAt a).signExtend 32 := by
  have hbyte : ((m.byteAt a).setWidth 32).extractLsb' 0 8 = m.byteAt a := by
    rw [← BitVec.setWidth_eq_extractLsb' (by decide), BitVec.setWidth_setWidth_of_le _ (by decide),
      BitVec.setWidth_eq]
  exact congrArg (BitVec.signExtend 32) hbyte

/-- Sign extension of a halfword starts from the low 16 bits of the word. -/
theorem sextHalf_eq_signExtend (a : Word) : sextHalf a = (a.setWidth 16).signExtend 32 := by
  rw [sextHalf, BitVec.setWidth_eq_extractLsb' (by decide)]

/-! ### Stores that are allowed -/

/-- A state whose memory is that after a store holds the stored value, and every other byte as before (20_memory.md rule
R71). -/
theorem stored_of_mem {s t : State} {a v : Word} {w : Width} (h : t.mem = s.mem.store s.cfg.bigEndian a v w) :
    Stored s t a w v := by
  rw [Stored, h]
  exact ⟨load_of_bytes fun x hx => by rw [byteAt_store, if_pos hx], fun x => byteAt_store_other _ _ _ _ x w⟩

/-- A store that is allowed stores its value and changes nothing else but marks: it is not made through the cache. -/
theorem store_completes {i : Instr} {s : State} {len : Nat} {a v : Word} {w : Width} {sp : Bool}
    (hi : exec i s = s.store len a w sp v) (ha : Allowed s a w .write sp) :
    Completes i s (Stores s · a w v len) := by
  obtain ⟨held, old, stale, hwrite⟩ := writeData_allowed_frame (multi := false) v ha
  exact ⟨_, hi.trans (store_ok s _ len a w sp v hwrite),
    stored_of_mem rfl, sameRegs_refl s, rfl, ⟨rfl, rfl⟩, by constructor <;> rfl, rfl⟩

/-! ### The instructions -/

/-- Settles O22: each form is `load` at its address, and the signed forms extend what memory gives. -/
theorem loadResults : Obligations.load_results := by
  intro s rz rx off hz hx
  exact ⟨load_completes (fun v => v) (withRegs_two _ hz hx) rfl hz,
    load_completes (fun v => v) (withRegs_two _ hz hx) rfl hz,
    load_completes sextByte (withRegs_two _ hz hx) (sextByte_load _ _ _) hz,
    load_completes (fun v => v) (withRegs_two _ hz hx) rfl hz,
    load_completes (fun v => v) (withRegs_two _ hz hx) rfl hz,
    load_completes sextHalf (withRegs_two _ hz hx) (sextHalf_eq_signExtend _) hz,
    load_completes (fun v => v) (withRegs_two _ hz hx) rfl hz,
    load_completes (fun v => v) (withRegs_two _ hz hx) rfl hz,
    load_completes (fun v => v) (withRegs_one _ hz) rfl hz⟩

/-- Settles O24: each form is `store` of its register at its address. -/
theorem storeResults : Obligations.store_results := by
  intro s rz rx off hz hx
  exact ⟨store_completes (withRegs_two _ hz hx), store_completes (withRegs_two _ hz hx),
    store_completes (withRegs_two _ hz hx), store_completes (withRegs_two _ hz hx),
    store_completes (withRegs_two _ hz hx), store_completes (withRegs_two _ hz hx),
    store_completes (withRegs_one _ hz)⟩

end Sys2Proof.Machine
end

section
/-! SUPPORT. The control, privileged and special instructions (49_system.md): the privilege check, the return from an
exception, low power, traps, and the entry through vector 8 where a vector's word cannot be read. -/

namespace Sys2Proof.Machine

/-! ### The privilege check -/

/-- An instruction that checks its privilege first is a privilege violation in user mode (60_exceptions.md rule R420). -/
theorem traps_of_privileged {s : State} {i : Instr} {k : Result} (h : exec i s = s.privileged k)
    (hs : s.psrS = false) : Traps i s 5 :=
  traps_of_raise (c := .privilege) rfl (h.trans (privileged_user s k hs))

/-- The same for an instruction that asks for its option before, where the option is configured. -/
theorem traps_of_requires_privileged {s : State} {i : Instr} {option : Bool} {k : Result}
    (h : exec i s = s.requires option (s.privileged k)) (hoption : option = true) (hs : s.psrS = false) :
    Traps i s 5 :=
  traps_of_privileged (k := k) (by rw [h, hoption, requires_configured]) hs

/-- Settles O42: each checks its privilege first, NIE and NIR after their option. -/
theorem privilegedInstructionsTrapInUserMode : Obligations.privileged_instructions_trap_in_user_mode := by
  intro s rz rx n sel hs
  exact ⟨traps_of_privileged rfl hs, traps_of_privileged rfl hs, traps_of_privileged rfl hs,
    traps_of_privileged rfl hs, traps_of_privileged rfl hs, traps_of_privileged rfl hs, fun hn =>
    ⟨traps_of_requires_privileged rfl hn hs, traps_of_requires_privileged rfl hn hs⟩⟩

/-! ### Return from an exception -/

/-- RTE in supervisor mode is the return transition (49_system.md rule R393). -/
theorem exec_rte32 {s : State} (hs : s.psrS = true) : exec .rte32 s = .next s.returnFromException :=
  privileged_supervisor s _ hs

/-- Settles O43: an entry keeps PSR in EPSR and the PC in EPC, and all the state but those that RTE writes. -/
theorem returnFromExceptionResults : Obligations.return_from_exception_results := by
  intro s hs
  refine ⟨⟨_, exec_rte32 hs, rfl, rfl, ⟨rfl, rfl, returnFromException_spOf s, rfl, rfl, rfl, rfl⟩, ⟨rfl, rfl⟩,
    by constructor <;> rfl, fun _ => rfl⟩, ?_⟩
  intro u vec hpsr hentry hepsr
  have hsupervisor : u.psrS = true := (takeVector_handler hentry).1
  obtain ⟨psr, epsr, pc, stale, held, rfl⟩ := takeVector_frame s u vec s.pc hentry
  refine ⟨_, exec_rte32 hsupervisor, ?_, rfl, ⟨rfl, rfl, fun b => by cases b <;> rfl, rfl, rfl, rfl, rfl⟩,
    by constructor <;> rfl, fun _ => rfl⟩
  calc epsr &&& psrMask s.cfg
    _ = s.psr &&& psrMask s.cfg := congrArg (· &&& psrMask s.cfg) hepsr
    _ = s.psr := hpsr

/-! ### Low power, SYNC and the translation mode -/

/-- Entering low power completes the instruction and changes the run state beside the PC (49_system.md rule R398). -/
theorem lowPower_completes {s : State} {i : Instr} {m : RunState} (h : exec i s = s.privileged (s.lowPower m))
    (hs : s.psrS = true) : Completes i s (fun t => GoesTo s { t with run := s.run } (s.pc + 4) ∧ t.run = m) :=
  ⟨_, h.trans (privileged_supervisor s _ hs), advance_goesTo s 4, rfl⟩

/-- BMSET and BMCLR change bit 2 of PSR only (49_system.md rules R400, R401). -/
theorem getLsbD_setBM (s : State) (b : Bool) (k : Nat) :
    (s.setBM b).psr.getLsbD k = if k = 2 then b else s.psr.getLsbD k := by
  by_cases hk : k < 32
  · exact getLsbD_setBit s.psr 2 k b hk
  · rw [if_neg (by omega), BitVec.getLsbD_of_ge _ k (by omega), BitVec.getLsbD_of_ge _ k (by omega)]

theorem setBM_completes {s : State} {i : Instr} {b : Bool}
    (h : exec i s = s.requires s.cfg.bct (.next ((s.setBM b).advance 4))) (hb : s.cfg.bct = true) :
    Completes i s (fun t => t.psrBM = b ∧ (∀ k, k ≠ 2 → t.psr.getLsbD k = s.psr.getLsbD k) ∧ SameRegs s t ∧
      SameSaved s t ∧ SameControl s t ∧ SameMemory s t ∧ t.pc = s.pc + 4) := by
  refine ⟨(s.setBM b).advance 4, by rw [h, hb, requires_configured], getLsbD_setBM s b 2,
    fun k hk => (getLsbD_setBM s b k).trans (if_neg hk), ⟨rfl, rfl, fun b => by cases b <;> rfl, rfl, rfl, rfl, rfl⟩,
    ⟨rfl, rfl⟩, by constructor <;> rfl, fun _ => rfl, rfl⟩

/-- Settles O44: the three low-power instructions run `lowPower`, BMSET and BMCLR `setBM`. -/
theorem lowPowerAndModeResults : Obligations.low_power_and_mode_results := by
  intro s
  refine ⟨fun hs i m h => ?_, ⟨_, rfl, sameRegs_refl s, rfl, ⟨rfl, rfl⟩, by constructor <;> rfl, fun _ => rfl, rfl⟩,
    fun hb i b h => ?_⟩
  · rcases h with ⟨rfl, rfl⟩ | ⟨rfl, rfl⟩ | ⟨rfl, rfl⟩ <;> exact lowPower_completes rfl hs
  · rcases h with ⟨rfl, rfl⟩ | ⟨rfl, rfl⟩ <;> exact setBM_completes rfl hb

/-! ### Traps and breakpoints -/

/-- Settles O45: TRAP raises its cause, and BKPT raises the breakpoint unless CSR.FDB is 1. -/
theorem trapAndBreakpointEnter : Obligations.trap_and_breakpoint_enter := by
  intro s n
  refine ⟨fun _ => traps_of_raise (c := .trap n) rfl rfl, fun hf => traps_of_raise (c := .breakpoint) rfl ?_,
    fun hf => ?_⟩
  · rw [exec, execBkpt16, hf, if_neg Bool.false_ne_true]
  · rw [exec, execBkpt16, hf, if_pos rfl]

/-! ### Vectors that cannot be read -/

/-- Where a vector's word cannot be read the entry goes on to vector 8 from the handler's state (92_eei_decisions.md
D30). -/
theorem takeVector_unreadable {s : State} {vec : BitVec 8} {ret : Word} {c : Cause}
    (h : (s.enter vec ret).vectorWord vec = .error (.raise c)) :
    s.takeVector vec ret = (s.enter vec ret).vectorFailed ret := by
  simp only [State.takeVector, h]

/-- With the word of vector 8 readable, that is an ordinary entry through vector 8. -/
theorem vectorFailed_readable {s : State} {ret w : Word} (h : VectorReads s 8 ret w) :
    s.vectorFailed ret = s.takeVector 8 ret := by
  have hw : (s.enter 8 ret).vectorWord 8 = .ok w := h
  simp only [State.vectorFailed, State.takeVector, hw]

theorem vectorFailed_unreadable {s : State} {ret : Word} {d : Cause}
    (h : (s.enter 8 ret).vectorWord 8 = .error (.raise d)) : s.vectorFailed ret = .fault .stuckVectorRead := by
  simp only [State.vectorFailed, h]

/-- Settles O48: the second entry is one from the state that the first one left. -/
theorem failedVectorRead : Obligations.failed_vector_read := by
  intro s u v n c d w _ hu hfail hv
  have hexec : exec (.trap32 n) s = u.vectorFailed s.pc := by
    calc exec (.trap32 n) s
      _ = s.takeVector (s.vectorFor (.trap n)) s.pc := rfl
      _ = s.takeVector (syncVector s (BitVec.ofNat 8 (16 + n))) s.pc := by rw [vectorFor_sync s (.trap n) rfl]; rfl
      _ = u.vectorFailed s.pc := by rw [hu] at hfail ⊢; exact takeVector_unreadable hfail
  subst hv
  refine ⟨fun hw => ?_, fun hd => hexec.trans (vectorFailed_unreadable hd)⟩
  obtain ⟨t, ht, hentered⟩ := takeVector_entered u 8 s.pc w hw
  exact ⟨t, by rw [hexec, vectorFailed_readable hw, ht], hentered⟩

end Sys2Proof.Machine
end

section
/-! SUPPORT. The multi-access instructions (48_multi.md): the transfers that each makes, in time, over its registers in
ascending order, and what the first transfers of them leave. -/

namespace Sys2Proof.Machine

/-! ### The transfers of an instruction -/

/-- The transfers of a multi-access instruction in time, `regs` its registers in ascending order and `a` the lowest
address: PUSH and IPUSH go down, the others up. -/
def State.timedXfers (s : State) (i : Instr) (regs : List Nat) (a : Word) : AccessKind → List Xfer
  | .write =>
    if goesDown i then s.pushXfers (a + BitVec.ofNat 32 (4 * regs.length)) regs.reverse else s.storeXfers a regs
  | _ => loadXfers a regs

/-- What `multiAccess` names is what the instruction does: it makes its transfers in time, an interrupt may come between
them, its registers are different ones that exist, and only a store goes down. -/
structure MakesTransfers (s : State) (i : Instr) (regs : List Nat) (a : Word) (kind : AccessKind) (sp : Bool) :
    Prop where
  executes : ∃ k, exec i s = s.multi sp (s.timedXfers i regs a kind) k
  interruptible : instrTransfers i s = some (sp, s.timedXfers i regs a kind)
  direction : kind = .write ∨ kind = .read ∧ goesDown i = false
  nodup : regs.Nodup
  exist : ∀ m ∈ regs, s.hasReg m = true
  few : regs.length ≤ 16

theorem hasReg_cases {s : State} {n : Nat} (h : s.hasReg n = true) : n < 16 ∨ n = 23 ∨ n = 24 ∨ n = 25 ∨ n = 30 := by
  simp only [State.hasReg, Bool.or_eq_true, Bool.and_eq_true, decide_eq_true_eq, beq_iff_eq] at h
  omega

/-- Registers that exist and follow one another are at most 16: R16 does not exist. -/
theorem rangeRegs_few {s : State} {ry n : Nat} (h : ∀ m ∈ rangeRegs ry n, s.hasReg m = true) :
    (rangeRegs ry n).length ≤ 16 := by
  rw [rangeRegs, List.length_range']
  have hfirst := hasReg_cases (h ry (mem_rangeRegs.mpr (by omega)))
  have hlast := hasReg_cases (h (ry + n) (mem_rangeRegs.mpr (by omega)))
  by_contra hmany
  rcases hfirst with hlow | _
  · have := hasReg_cases (h 16 (mem_rangeRegs.mpr (by omega)))
    omega
  · omega

theorem rangeRegs_nodup (ry n : Nat) : (rangeRegs ry n).Nodup := List.nodup_range'

/-- What LDM and STM ask for, and the range that they then transfer. -/
theorem multiAccess_range {s : State} {ry rx n : Nat} {kind k : AccessKind} {regs : List Nat} {a : Word} {sp : Bool}
    (h : multiAccess.range s ry rx n kind = some (regs, a, k, sp)) :
    (∀ m ∈ rx :: rangeRegs ry n, s.hasReg m = true) ∧ (kind = .write ∨ (rangeRegs ry n).contains rx = false) ∧
      rangeRegs ry n = regs ∧ s.reg rx = a ∧ kind = k ∧ (rx == 14) = sp := by
  unfold multiAccess.range at h
  split at h
  · rename_i hcond
    simp only [Bool.and_eq_true, Bool.or_eq_true, Bool.not_eq_true', beq_iff_eq, List.all_eq_true] at hcond
    cases h
    exact ⟨hcond.1, hcond.2, rfl, rfl, rfl, rfl⟩
  · cases h

theorem loadRange_eq_multi {s : State} {ry rx n : Nat} (hall : ∀ m ∈ rx :: rangeRegs ry n, s.hasReg m = true)
    (hout : (rangeRegs ry n).contains rx = false) :
    s.loadRange ry rx n = s.multi (rx == 14) (loadXfers (s.reg rx) (rangeRegs ry n)) (fun t => .next (t.advance 4)) := by
  rw [State.loadRange, withRegs_of_all _ _ _ hall, hout, if_neg Bool.false_ne_true]
  rfl

theorem storeRange_eq_multi {s : State} {ry rx n : Nat} (hall : ∀ m ∈ rx :: rangeRegs ry n, s.hasReg m = true) :
    s.storeRange ry rx n = s.multi (rx == 14) (s.storeXfers (s.reg rx) (rangeRegs ry n)) (fun t => .next (t.advance 4)) :=
  withRegs_of_all _ _ _ hall

section
variable {s : State} {i : Instr} {ry rx n : Nat} {regs : List Nat} {a : Word} {k : AccessKind} {sp : Bool}

theorem ldm_makesTransfers (h : multiAccess.range s ry rx n .read = some (regs, a, k, sp))
    (hexec : exec i s = s.loadRange ry rx n) (hint : instrTransfers i s = instrTransfers.ldm s ry rx n)
    (hup : goesDown i = false) : MakesTransfers s i regs a k sp := by
  obtain ⟨hall, hout, rfl, rfl, rfl, rfl⟩ := multiAccess_range h
  have hout : (rangeRegs ry n).contains rx = false := hout.resolve_left (by decide)
  have hexist := fun m hm => hall m (List.mem_cons_of_mem _ hm)
  refine ⟨⟨_, hexec.trans (loadRange_eq_multi hall hout)⟩, ?_, .inr ⟨rfl, hup⟩, rangeRegs_nodup ry n, hexist,
    rangeRegs_few hexist⟩
  rw [hint, instrTransfers.ldm, List.all_eq_true.mpr hall, hout]
  rfl

theorem stm_makesTransfers (h : multiAccess.range s ry rx n .write = some (regs, a, k, sp))
    (hexec : exec i s = s.storeRange ry rx n) (hint : instrTransfers i s = instrTransfers.stm s ry rx n)
    (hup : goesDown i = false) : MakesTransfers s i regs a k sp := by
  obtain ⟨hall, _, rfl, rfl, rfl, rfl⟩ := multiAccess_range h
  have hexist := fun m hm => hall m (List.mem_cons_of_mem _ hm)
  have htimed : s.timedXfers i (rangeRegs ry n) (s.reg rx) .write = s.storeXfers (s.reg rx) (rangeRegs ry n) := by
    rw [State.timedXfers, hup, if_neg Bool.false_ne_true]
  refine ⟨⟨_, by rw [hexec, htimed]; exact storeRange_eq_multi hall⟩, ?_, .inl rfl, rangeRegs_nodup ry n, hexist,
    rangeRegs_few hexist⟩
  rw [hint, htimed, instrTransfers.stm, List.all_eq_true.mpr hall]
  rfl

theorem push_timedXfers (hdown : goesDown i = true) :
    s.timedXfers i regs (s.sp - BitVec.ofNat 32 (4 * regs.length)) .write = s.pushListXfers regs := by
  rw [State.timedXfers, hdown, if_pos rfl, BitVec.sub_add_cancel, State.pushListXfers]

theorem push_makesTransfers (hexec : exec i s = s.pushRegs regs)
    (hint : instrTransfers i s = some (true, s.pushListXfers regs)) (hdown : goesDown i = true) (hnodup : regs.Nodup)
    (hexist : ∀ m ∈ regs, s.hasReg m = true) (hfew : regs.length ≤ 16) :
    MakesTransfers s i regs (s.sp - BitVec.ofNat 32 (4 * regs.length)) .write true := by
  refine ⟨⟨_, by rw [hexec, push_timedXfers hdown]; rfl⟩, by rw [hint, push_timedXfers hdown], .inl rfl, hnodup, hexist,
    hfew⟩

end

theorem mem_listRegs {r15 list1 m : Nat} : m ∈ listRegs r15 list1 ↔ 4 ≤ m ∧ m < 4 + list1 ∨ r15 = 1 ∧ m = 15 := by
  rw [listRegs, List.mem_append, List.mem_range'_1]
  split <;> simp_all

theorem listRegs_nodup {r15 list1 : Nat} (h : list1 ≤ 8) : (listRegs r15 list1).Nodup := by
  refine List.Nodup.append List.nodup_range' (by split <;> simp) fun m hm hm' => ?_
  rw [List.mem_range'_1] at hm
  split at hm'
  · rw [List.mem_singleton] at hm'
    omega
  · cases hm'

theorem listRegs_few {r15 list1 : Nat} (h : list1 ≤ 8) : (listRegs r15 list1).length ≤ 16 := by
  rw [listRegs, List.length_append, List.length_range']
  split <;> simp <;> omega

theorem ipushRegs_exist (s : State) : ∀ m ∈ ipushRegs, s.hasReg m = true := by
  have hlow : ∀ m ∈ ipushRegs, m < 16 := by decide
  exact fun m hm => hasReg_of_lt (hlow m hm)

/-- Each multi-access instruction makes the transfers of its registers. -/
theorem multiAccess_makesTransfers {s : State} {i : Instr} {regs : List Nat} {a : Word} {kind : AccessKind} {sp : Bool}
    (h : multiAccess s i = some (regs, a, kind, sp)) : MakesTransfers s i regs a kind sp := by
  unfold multiAccess at h
  split at h
  case h_1 => exact ldm_makesTransfers h rfl rfl rfl
  case h_2 => exact ldm_makesTransfers h rfl rfl rfl
  case h_3 => exact stm_makesTransfers h rfl rfl rfl
  case h_4 => exact stm_makesTransfers h rfl rfl rfl
  case h_5 r15 list1 =>
    split at h
    · rename_i hl
      cases h
      exact push_makesTransfers (withRegs_of_all _ _ _ (listRegs_exist hl)) rfl rfl (listRegs_nodup hl)
        (listRegs_exist hl) (listRegs_few hl)
    · cases h
  case h_6 r15 list1 =>
    split at h
    · rename_i hl
      cases h
      exact ⟨⟨_, withRegs_of_all _ _ _ (listRegs_exist hl)⟩, rfl, .inr ⟨rfl, rfl⟩, listRegs_nodup hl, listRegs_exist hl,
        listRegs_few hl⟩
    · cases h
  case h_7 =>
    split at h
    · rename_i hn
      cases h
      exact push_makesTransfers (by rw [exec, execIpush16, hn, requires_configured])
        (by simp only [instrTransfers, hn, if_true]) rfl (by decide) (ipushRegs_exist s) (by decide)
    · cases h
  case h_8 =>
    split at h
    · rename_i hn
      cases h
      exact ⟨⟨_, by rw [exec, execIpop16, hn, requires_configured]; rfl⟩,
        by simp only [instrTransfers, hn, if_true]; rfl, .inr ⟨rfl, rfl⟩, by decide, ipushRegs_exist s, by decide⟩
    · cases h
  case h_9 => cases h

/-! ### The first transfers -/

theorem loadXfers_append (a : Word) (ms ns : List Nat) :
    loadXfers a (ms ++ ns) = loadXfers a ms ++ loadXfers (a + BitVec.ofNat 32 (4 * ms.length)) ns := by
  induction ms generalizing a with
  | nil => simp [loadXfers]
  | cons m ms ih =>
    simp only [List.cons_append, loadXfers, ih, List.length_cons]
    congr 3
    bv_omega

theorem storeXfers_append (s : State) (a : Word) (ms ns : List Nat) :
    s.storeXfers a (ms ++ ns) = s.storeXfers a ms ++ s.storeXfers (a + BitVec.ofNat 32 (4 * ms.length)) ns := by
  induction ms generalizing a with
  | nil => simp [State.storeXfers]
  | cons m ms ih =>
    simp only [List.cons_append, State.storeXfers, ih, List.length_cons]
    congr 3
    bv_omega

theorem pushXfers_append (s : State) (a : Word) (ms ns : List Nat) :
    s.pushXfers a (ms ++ ns) = s.pushXfers a ms ++ s.pushXfers (a - BitVec.ofNat 32 (4 * ms.length)) ns := by
  induction ms generalizing a with
  | nil => simp [State.pushXfers]
  | cons m ms ih =>
    simp only [List.cons_append, State.pushXfers, ih, List.length_cons]
    congr 3
    bv_omega

theorem loadXfers_length (a : Word) (ns : List Nat) : (loadXfers a ns).length = ns.length := by
  induction ns generalizing a with
  | nil => rfl
  | cons n ns ih => simp only [loadXfers, List.length_cons, ih]

theorem storeXfers_length (s : State) (a : Word) (ns : List Nat) : (s.storeXfers a ns).length = ns.length := by
  induction ns generalizing a with
  | nil => rfl
  | cons n ns ih => simp only [State.storeXfers, List.length_cons, ih]

theorem pushXfers_length (s : State) (a : Word) (ns : List Nat) : (s.pushXfers a ns).length = ns.length := by
  induction ns generalizing a with
  | nil => rfl
  | cons n ns ih => simp only [State.pushXfers, List.length_cons, ih]

theorem timedXfers_length (s : State) (i : Instr) (regs : List Nat) (a : Word) (kind : AccessKind) :
    (s.timedXfers i regs a kind).length = regs.length := by
  unfold State.timedXfers
  split
  · split
    · rw [pushXfers_length, List.length_reverse]
    · exact storeXfers_length s a regs
  · exact loadXfers_length a regs

theorem doneRegs_length {i : Instr} {regs : List Nat} {k : Nat} (hk : k ≤ regs.length) :
    (doneRegs i regs k).length = k := by
  unfold doneRegs
  split
  · rw [List.length_drop]
    omega
  · rw [List.length_take]
    omega

theorem doneRegs_sublist (i : Instr) (regs : List Nat) (k : Nat) : (doneRegs i regs k).Sublist regs := by
  unfold doneRegs
  split
  · exact List.drop_sublist _ _
  · exact List.take_sublist _ _

/-- The transfer is of the kind: what it takes to refuse it. -/
def Xfer.isOf : Xfer → AccessKind → Prop
  | .load _ _, k => k = .read
  | .store _ _, k => k = .write

/-- A list at one of its places. -/
theorem eq_take_append_getElem_cons (regs : List Nat) {j : Nat} (hj : j < regs.length) :
    regs = regs.take j ++ regs[j] :: regs.drop (j + 1) := by
  rw [← List.drop_eq_getElem_cons hj, List.take_append_drop]

/-- The loads are those of the first `k` registers, then one at the next address, then the rest. -/
theorem loadXfers_split (a : Word) {regs : List Nat} {k : Nat} (hk : k < regs.length) :
    ∃ x xs, loadXfers a regs = loadXfers a (regs.take k) ++ x :: xs ∧ x.addr = a + BitVec.ofNat 32 (4 * k) ∧
      x.isOf .read := by
  refine ⟨.load regs[k] (a + BitVec.ofNat 32 (4 * k)), loadXfers (a + BitVec.ofNat 32 (4 * k) + 4) (regs.drop (k + 1)),
    ?_, rfl, rfl⟩
  conv_lhs => rw [eq_take_append_getElem_cons regs hk, loadXfers_append, List.length_take_of_le hk.le, loadXfers]

/-- So are the stores that go up. -/
theorem storeXfers_split (s : State) (a : Word) {regs : List Nat} {k : Nat} (hk : k < regs.length) :
    ∃ x xs, s.storeXfers a regs = s.storeXfers a (regs.take k) ++ x :: xs ∧ x.addr = a + BitVec.ofNat 32 (4 * k) ∧
      x.isOf .write := by
  refine ⟨.store (s.reg regs[k]) (a + BitVec.ofNat 32 (4 * k)),
    s.storeXfers (a + BitVec.ofNat 32 (4 * k) + 4) (regs.drop (k + 1)), ?_, rfl, rfl⟩
  conv_lhs => rw [eq_take_append_getElem_cons regs hk, storeXfers_append, List.length_take_of_le hk.le, State.storeXfers]

/-- Going down, from the last register: the last `k` registers, then one just below them, then the rest. -/
theorem pushXfers_split (s : State) (a : Word) {regs : List Nat} {k : Nat} (hk : k < regs.length) :
    ∃ x xs, s.pushXfers a regs.reverse = s.pushXfers a (regs.drop (regs.length - k)).reverse ++ x :: xs ∧
      x.addr = a - BitVec.ofNat 32 (4 * k) - 4 ∧ x.isOf .write := by
  have hj : regs.length - k - 1 < regs.length := by omega
  have hlen : (regs.drop (regs.length - k)).reverse.length = k := by
    rw [List.length_reverse, List.length_drop]
    omega
  have hsplit : regs.reverse = (regs.drop (regs.length - k)).reverse ++
      regs[regs.length - k - 1] :: (regs.take (regs.length - k - 1)).reverse := by
    conv_lhs => rw [eq_take_append_getElem_cons regs hj, List.reverse_append, List.reverse_cons, List.append_assoc]
    rw [Nat.sub_add_cancel (by omega)]
    rfl
  refine ⟨.store (s.reg regs[regs.length - k - 1]) (a - BitVec.ofNat 32 (4 * k) - 4),
    s.pushXfers (a - BitVec.ofNat 32 (4 * k) - 4) (regs.take (regs.length - k - 1)).reverse, ?_, rfl, rfl⟩
  conv_lhs => rw [hsplit, pushXfers_append, hlen, State.pushXfers]

/-- The transfers in time are those of the first `k` registers, then one at the next address, then the rest. -/
theorem timedXfers_split {s : State} {i : Instr} {regs : List Nat} {a : Word} {kind : AccessKind} {k : Nat}
    (hdir : kind = .write ∨ kind = .read ∧ goesDown i = false) (hk : k < regs.length) :
    ∃ x xs, s.timedXfers i regs a kind =
        s.timedXfers i (doneRegs i regs k) (doneAddr i regs a k) kind ++ x :: xs ∧
      x.addr = nextAddr i regs a k ∧ x.isOf kind := by
  have hlen := doneRegs_length (i := i) hk.le
  rcases hdir with rfl | ⟨rfl, hup⟩
  · unfold State.timedXfers
    simp only [hlen]
    unfold doneRegs doneAddr nextAddr
    split
    · obtain ⟨x, xs, hsplit, haddr, hkind⟩ := pushXfers_split s (a + BitVec.ofNat 32 (4 * regs.length)) hk
      have htop : a + BitVec.ofNat 32 (4 * (regs.length - k)) + BitVec.ofNat 32 (4 * k) =
          a + BitVec.ofNat 32 (4 * regs.length) := by bv_omega
      refine ⟨x, xs, by rw [htop, hsplit], haddr.trans ?_, hkind⟩
      bv_omega
    · exact storeXfers_split s a hk
  · simp only [State.timedXfers, doneRegs, doneAddr, nextAddr, hup, Bool.false_eq_true, if_false]
    exact loadXfers_split a hk

theorem aligned_add {w : Width} {n : Nat} (a : Word) (hn : n % w.bytes = 0) :
    w.aligned (a + BitVec.ofNat 32 n) = w.aligned a := by
  rw [← aligned_sub (a + BitVec.ofNat 32 n) hn, BitVec.add_sub_cancel]

/-- Every transfer is at a multiple of 4 from the lowest address. -/
theorem nextAddr_aligned (i : Instr) (regs : List Nat) (a : Word) (k : Nat) :
    Width.word.aligned (nextAddr i regs a k) = Width.word.aligned a := by
  unfold nextAddr
  split <;> exact aligned_add a (Nat.mul_mod_right 4 _)

/-- An interrupt after `k` transfers comes after those of the first `k` registers. -/
theorem timedXfers_take {s : State} {i : Instr} {regs : List Nat} {a : Word} {kind : AccessKind} {k : Nat}
    (hdir : kind = .write ∨ kind = .read ∧ goesDown i = false) (hk : k < regs.length) :
    (s.timedXfers i regs a kind).take k = s.timedXfers i (doneRegs i regs k) (doneAddr i regs a k) kind := by
  obtain ⟨x, xs, hsplit, _⟩ := timedXfers_split (s := s) (a := a) hdir hk
  rw [hsplit, List.take_left' ((timedXfers_length _ _ _ _ _).trans (doneRegs_length hk.le))]

end Sys2Proof.Machine
end

section
/-! SUPPORT. What transfers that are allowed leave: the words stored in memory, the words loaded, and the registers
that the loaded words are written to (48_multi.md rule R360). -/

namespace Sys2Proof.Machine

/-! ### Words that are allowed -/

/-- Memory, and what the cache may hold, decide no check of an access. -/
theorem checkAccess_marks (s : State) (mem : Memory) (held old : List Span) (stale : List Stale) (a : Word) (w : Width)
    (k : AccessKind) (sp : Bool) :
    State.checkAccess { s with mem, held, old, stale } a w k sp = s.checkAccess a w k sp := by
  simp only [State.checkAccess, State.guardFails, State.mpuCheck, mpuRegion_marks]
  rfl

theorem allowedWords_marks {s : State} {a : Word} {n : Nat} {k : AccessKind} {sp : Bool} (mem : Memory)
    (held old : List Span) (stale : List Stale) (h : AllowedWords s a n k sp) :
    AllowedWords { s with mem, held, old, stale } a n k sp :=
  ⟨h.1, fun j hj => allowed_marks s mem held old stale (h.2 j hj)⟩

/-- The first word, and those after it. -/
theorem allowedWords_succ {s : State} {a : Word} {n : Nat} {k : AccessKind} {sp : Bool}
    (h : AllowedWords s a (n + 1) k sp) :
    s.between = [] ∧ Allowed s a .word k sp ∧ AllowedWords s (a + 4) n k sp := by
  obtain ⟨hb, hwords⟩ := h
  refine ⟨hb, by simpa using hwords 0 (Nat.succ_pos n), hb, fun j hj => ?_⟩
  have haddr : a + 4 + BitVec.ofNat 32 (4 * j) = a + BitVec.ofNat 32 (4 * (j + 1)) := by bv_omega
  rw [haddr]
  exact hwords (j + 1) (Nat.succ_lt_succ hj)

/-! ### Stores -/

/-- A word of memory is its four bytes. -/
theorem load_word_congr {m m' : Memory} (be : Bool) {a : Word}
    (h : ∀ k < 4, m.byteAt (a + BitVec.ofNat 32 k) = m'.byteAt (a + BitVec.ofNat 32 k)) :
    m.load be a .word = m'.load be a .word := by
  refine word_ext_bytes fun k hk => ?_
  rw [load_byte _ _ _ _ hk, load_byte _ _ _ _ hk, if_pos (show k < Width.word.bytes from hk),
    if_pos (show k < Width.word.bytes from hk)]
  exact h _ (lane_lt be hk)

/-- Words stored just above a word that was stored before them. -/
theorem storedWords_cons_above {s u t : State} {a v : Word} {vs : List Word} (hlen : 4 * (vs.length + 1) ≤ 2 ^ 32)
    (hu : u.mem = s.mem.store s.cfg.bigEndian a v .word) (hcfg : u.cfg = s.cfg) (h : StoredWords u t (a + 4) vs) :
    StoredWords s t a (v :: vs) := by
  obtain ⟨hwords, hrest⟩ := h
  rw [hcfg] at hwords
  refine ⟨fun k hk => ?_, fun x hx => ?_⟩
  · cases k with
    | zero =>
      have hbelow : t.mem.load s.cfg.bigEndian a .word = u.mem.load s.cfg.bigEndian a .word :=
        load_word_congr _ fun k hk => hrest _ (by bv_omega)
      rw [show a + BitVec.ofNat 32 (4 * 0) = a from BitVec.add_zero a, hbelow, hu]
      exact load_store_same s.mem s.cfg.bigEndian a v
    | succ k =>
      have haddr : a + BitVec.ofNat 32 (4 * (k + 1)) = a + 4 + BitVec.ofNat 32 (4 * k) := by bv_omega
      rw [haddr]
      exact hwords k (Nat.lt_of_succ_lt_succ hk)
  · simp only [List.length_cons] at hx
    rw [hrest x (by bv_omega), hu, byteAt_store_other _ _ _ _ _ _ (word_covers_false (by omega))]

/-- Stores that go up leave their words in memory, from the first address on; else only marks change. -/
theorem transfer_stores_up (v : State) {sp : Bool} (regs : List Nat) {s : State} {a : Word} (hfew : regs.length ≤ 16)
    (h : AllowedWords s a regs.length .write sp) :
    ∃ mem held old stale, (∀ l xs, s.transfer sp l (v.storeXfers a regs ++ xs) =
        State.transfer { s with mem, held, old, stale } sp l xs) ∧ StoredWords s { s with mem } a (regs.map v.reg) := by
  induction regs generalizing s a with
  | nil => exact ⟨s.mem, s.held, s.old, s.stale, fun l xs => rfl, storedWords_nil a rfl⟩
  | cons n ns ih =>
    rw [List.length_cons] at h hfew
    obtain ⟨hb, hfirst, hrest⟩ := allowedWords_succ h
    obtain ⟨held, old, stale, hstore⟩ := transfer_store_allowed (v.reg n) hb hfirst
    obtain ⟨mem', held', old', stale', hgo, hstored⟩ := ih (by omega) (allowedWords_marks
      (s.mem.store s.cfg.bigEndian a (v.reg n) .word) held old stale hrest)
    refine ⟨mem', held', old', stale', fun l xs => ?_, storedWords_cons_above ?_ ?_ ?_ hstored⟩
    · exact (hstore l _).trans (hgo l xs)
    · rw [List.length_map]
      omega
    · rfl
    · rfl

/-- Stores that go down, from the highest register, leave the same words as stores that go up. -/
theorem transfer_stores_down (v : State) {sp : Bool} (regs : List Nat) {s : State} {a : Word} (hfew : regs.length ≤ 16)
    (h : AllowedWords s a regs.length .write sp) :
    ∃ mem held old stale, (∀ l xs, s.transfer sp l
          (v.pushXfers (a + BitVec.ofNat 32 (4 * regs.length)) regs.reverse ++ xs) =
        State.transfer { s with mem, held, old, stale } sp l xs) ∧ StoredWords s { s with mem } a (regs.map v.reg) := by
  induction regs generalizing s a with
  | nil => exact ⟨s.mem, s.held, s.old, s.stale, fun l xs => rfl, storedWords_nil a rfl⟩
  | cons n ns ih =>
    rw [List.length_cons] at h hfew
    obtain ⟨hb, hlast, hrest⟩ := allowedWords_succ h
    obtain ⟨mem, held, old, stale, hgo, hstored⟩ := ih (by omega) hrest
    obtain ⟨held', old', stale', hstore⟩ := transfer_store_allowed (v.reg n)
      (s := { s with mem, held, old, stale }) hb (allowed_marks s mem held old stale hlast)
    have htop : a + BitVec.ofNat 32 (4 * (ns.length + 1)) = a + 4 + BitVec.ofNat 32 (4 * ns.length) := by bv_omega
    have hlow : a + 4 + BitVec.ofNat 32 (4 * ns.length) - BitVec.ofNat 32 (4 * ns.length) - 4 = a := by bv_omega
    refine ⟨_, held', old', stale', fun l xs => ?_, storedWords_cons (u := { s with mem }) ?_ rfl hstored⟩
    · rw [List.length_cons, List.reverse_cons, pushXfers_append, List.length_reverse, htop, List.append_assoc, hgo,
        State.pushXfers, hlow]
      exact hstore l xs
    · rw [List.length_map]
      omega

/-! ### Loads -/

/-- The words that memory holds from `a` on, each with its register. -/
def loadedWords (m : Memory) (be : Bool) (a : Word) : List Nat → List (Nat × Word)
  | [] => []
  | n :: ns => (n, m.load be a .word) :: loadedWords m be (a + 4) ns

theorem loadedWords_regs (m : Memory) (be : Bool) (a : Word) (regs : List Nat) :
    (loadedWords m be a regs).map Prod.fst = regs := by
  induction regs generalizing a with
  | nil => rfl
  | cons n ns ih => rw [loadedWords, List.map_cons, ih]

/-- The register at place `j` goes with the word at place `j`. -/
theorem mem_loadedWords (m : Memory) (be : Bool) (a : Word) {regs : List Nat} {j : Nat} (hj : j < regs.length) :
    (regs[j], m.load be (a + BitVec.ofNat 32 (4 * j)) .word) ∈ loadedWords m be a regs := by
  induction regs generalizing a j with
  | nil => cases hj
  | cons n ns ih =>
    cases j with
    | zero =>
      rw [show a + BitVec.ofNat 32 (4 * 0) = a from BitVec.add_zero a]
      exact List.mem_cons_self
    | succ j =>
      have haddr : a + BitVec.ofNat 32 (4 * (j + 1)) = a + 4 + BitVec.ofNat 32 (4 * j) := by bv_omega
      rw [haddr]
      exact List.mem_cons_of_mem _ (ih (a + 4) (Nat.lt_of_succ_lt_succ hj))

/-- An allowed load of a multi-access instruction gives the word in memory, and the transfers go on. -/
theorem transfer_load_allowed {s : State} {sp : Bool} {a : Word} (hb : s.between = [])
    (h : Allowed s a .word .read sp) (n : Nat) (l : List (Nat × Word)) (xs : List Xfer) :
    s.transfer sp l (.load n a :: xs) = s.transfer sp (l ++ [(n, s.mem.load s.cfg.bigEndian a .word)]) xs := by
  simp only [State.transfer, readData_allowed _ _ _ true _ h, afterRead_allowed _ _ _ true _ h,
    landWrites_of_nil s hb]

/-- Loads give the words in memory and change nothing. -/
theorem transfer_loads {sp : Bool} {s : State} (regs : List Nat) {a : Word}
    (h : AllowedWords s a regs.length .read sp) (l : List (Nat × Word)) (xs : List Xfer) :
    s.transfer sp l (loadXfers a regs ++ xs) =
      s.transfer sp (l ++ loadedWords s.mem s.cfg.bigEndian a regs) xs := by
  induction regs generalizing a l with
  | nil => rw [loadedWords, List.append_nil]; rfl
  | cons n ns ih =>
    obtain ⟨hb, hfirst, hrest⟩ := allowedWords_succ h
    rw [loadXfers, List.cons_append, transfer_load_allowed hb hfirst, ih hrest, loadedWords, List.append_assoc]
    rfl

/-! ### The transfers of an instruction -/

/-- What the transfers of `regs` from `a` on leave, where all are allowed: words in memory, or words loaded. -/
def TransfersDone (s : State) (regs : List Nat) (a : Word) (mem : Memory) (loaded : List (Nat × Word)) :
    AccessKind → Prop
  | .write => loaded = [] ∧ StoredWords s { s with mem } a (regs.map s.reg)
  | _ => mem = s.mem ∧ loaded = loadedWords s.mem s.cfg.bigEndian a regs

/-- Transfers that are allowed are all made, before any others; `v` is the state that the registers stored are read
in. -/
theorem transfer_timedXfers {s v : State} {i : Instr} {regs : List Nat} {a : Word} {kind : AccessKind} {sp : Bool}
    (hv : v.reg = s.reg) (hdir : kind = .write ∨ kind = .read ∧ goesDown i = false) (hfew : regs.length ≤ 16)
    (h : AllowedWords s a regs.length kind sp) :
    ∃ mem held old stale loaded, (∀ xs, s.transfer sp [] (v.timedXfers i regs a kind ++ xs) =
        State.transfer { s with mem, held, old, stale } sp loaded xs) ∧ TransfersDone s regs a mem loaded kind := by
  rcases hdir with rfl | ⟨rfl, _⟩
  · simp only [State.timedXfers]
    split
    · obtain ⟨mem, held, old, stale, hgo, hstored⟩ := transfer_stores_down v regs hfew h
      exact ⟨mem, held, old, stale, [], hgo [], rfl, hv ▸ hstored⟩
    · obtain ⟨mem, held, old, stale, hgo, hstored⟩ := transfer_stores_up v regs hfew h
      exact ⟨mem, held, old, stale, [], hgo [], rfl, hv ▸ hstored⟩
  · exact ⟨s.mem, s.held, s.old, s.stale, _, fun xs => transfer_loads regs h [] xs, rfl, rfl⟩

/-! ### The registers that are loaded -/

theorem setRegs_bank14 (ps : List (Nat × Word)) (s : State) : (s.setRegs ps).bank14 = s.bank14 := by
  obtain ⟨_, _, _, _, _, _, _, _, _, e⟩ := setRegs_frame ps s
  rw [e]
  rfl

theorem reg_setRegs_other {n : Nat} {ps : List (Nat × Word)} (s : State) (h : n ∉ ps.map Prod.fst) :
    (s.setRegs ps).reg n = s.reg n := by
  induction ps generalizing s with
  | nil => rfl
  | cons p ps ih =>
    rw [List.map_cons, List.mem_cons, not_or] at h
    rw [State.setRegs, ih _ h.2, reg_setReg_other _ _ _ _ h.1]

/-- Registers that are different and exist each read what was written to it. -/
theorem reg_setRegs_mem {n : Nat} {v : Word} {ps : List (Nat × Word)} {s : State} (hnodup : (ps.map Prod.fst).Nodup)
    (hmem : (n, v) ∈ ps) (hn : s.hasReg n = true) : (s.setRegs ps).reg n = v := by
  induction ps generalizing s with
  | nil => cases hmem
  | cons p ps ih =>
    rw [List.map_cons, List.nodup_cons] at hnodup
    rw [State.setRegs]
    rcases List.mem_cons.mp hmem with rfl | hmem
    · rw [reg_setRegs_other _ hnodup.1, reg_setReg_same _ _ _ hn]
    · exact ih hnodup.2 hmem hn

/-- The banks of R14 that it does not name are unchanged. -/
theorem spOf_setRegs_other (ps : List (Nat × Word)) (s : State) {b : Bank} (hb : b ≠ s.bank14) :
    (s.setRegs ps).spOf b = s.spOf b := by
  induction ps generalizing s with
  | nil => rfl
  | cons p ps ih => rw [State.setRegs, ih (s.setReg p.1 p.2) hb, spOf_setReg_other _ _ _ _ hb]

/-- And so is the one it names, where R14 is not written. -/
theorem spOf_setRegs_of_not_mem {ps : List (Nat × Word)} (s : State) (h : 14 ∉ ps.map Prod.fst) (b : Bank) :
    (s.setRegs ps).spOf b = s.spOf b := by
  by_cases hb : b = s.bank14
  · have hsame := reg_setRegs_other s h
    rwa [reg14_eq_spOf, reg14_eq_spOf, setRegs_bank14, ← hb] at hsame
  · exact spOf_setRegs_other ps s hb

theorem setRegs_regsExcept (ps : List (Nat × Word)) (s : State) : RegsExcept s (s.setRegs ps) (ps.map Prod.fst) :=
  ⟨fun _ hn => reg_setRegs_other s hn, fun _ hb => spOf_setRegs_other ps s hb⟩

/-- What a register that was loaded part way holds: its loaded or its old value, which one is open (D26). -/
def State.drawn (s : State) (p : Nat × Word) : Nat × Word :=
  (p.1, if Config.freeBit s.free (2 ^ 34 + p.1) then p.2 else s.reg p.1)

theorem drawn_setReg {s : State} {n : Nat} {v : Word} {p : Nat × Word} (h : p.1 ≠ n) :
    (s.setReg n v).drawn p = s.drawn p := by
  simp only [State.drawn, reg_setReg_other s n p.1 v h]
  rfl

/-- Where the registers are different, drawing them one after the other is writing what is drawn of each. -/
theorem drawLoaded_eq_setRegs {ps : List (Nat × Word)} (s : State) (hnodup : (ps.map Prod.fst).Nodup) :
    s.drawLoaded ps = s.setRegs (ps.map s.drawn) := by
  induction ps generalizing s with
  | nil => rfl
  | cons p ps ih =>
    rw [List.map_cons, List.nodup_cons] at hnodup
    have hlater : ps.map (s.setReg p.1 (s.drawn p).2).drawn = ps.map s.drawn :=
      List.map_congr_left fun q hq => drawn_setReg fun e => hnodup.1 (e ▸ List.mem_map_of_mem hq)
    calc s.drawLoaded (p :: ps)
      _ = (s.setReg p.1 (s.drawn p).2).drawLoaded ps := rfl
      _ = (s.setReg p.1 (s.drawn p).2).setRegs (ps.map (s.setReg p.1 (s.drawn p).2).drawn) := ih _ hnodup.2
      _ = s.setRegs ((p :: ps).map s.drawn) := by rw [hlater]; rfl

theorem map_drawn_regs (s : State) (ps : List (Nat × Word)) : (ps.map s.drawn).map Prod.fst = ps.map Prod.fst := by
  rw [List.map_map]
  rfl

end Sys2Proof.Machine
end

section
/-! SUPPORT. The results of STM, STQ, PUSH, IPUSH, LDM, LDQ, POP and IPOP where every transfer is allowed (48_multi.md
rules R361 to R369). -/

namespace Sys2Proof.Machine

/-! ### All transfers -/

/-- With every transfer allowed the instruction goes on from the registers written. -/
theorem multi_completes {s : State} {i : Instr} {regs : List Nat} {a : Word} {kind : AccessKind} {sp : Bool}
    (k : State → Result) (hdir : kind = .write ∨ kind = .read ∧ goesDown i = false) (hfew : regs.length ≤ 16)
    (h : AllowedWords s a regs.length kind sp) :
    ∃ mem held old stale loaded, s.multi sp (s.timedXfers i regs a kind) k =
        k (State.setRegs { s with mem, held, old, stale } loaded) ∧ TransfersDone s regs a mem loaded kind := by
  obtain ⟨mem, held, old, stale, loaded, hgo, hdone⟩ := transfer_timedXfers (v := s) (i := i) rfl hdir hfew h
  have hall := hgo []
  rw [List.append_nil] at hall
  exact ⟨mem, held, old, stale, loaded, by rw [State.multi, hall]; rfl, hdone⟩

/-- Stores that are all allowed leave their words in memory, and the instruction goes on with no register written. -/
theorem stores_complete {s : State} {i : Instr} {regs : List Nat} {a : Word} {sp : Bool} (k : State → Result)
    (hfew : regs.length ≤ 16) (h : AllowedWords s a regs.length .write sp) :
    ∃ mem held old stale, s.multi sp (s.timedXfers i regs a .write) k = k { s with mem, held, old, stale } ∧
      StoredWords s { s with mem } a (regs.map s.reg) := by
  obtain ⟨mem, held, old, stale, loaded, hrun, rfl, hstored⟩ := multi_completes (i := i) k (.inl rfl) hfew h
  exact ⟨mem, held, old, stale, hrun, hstored⟩

/-- Loads that are all allowed write the words in memory to their registers and change nothing else. -/
theorem loads_complete {s : State} {regs : List Nat} {a : Word} {sp : Bool} (k : State → Result)
    (h : AllowedWords s a regs.length .read sp) :
    s.multi sp (loadXfers a regs) k = k (s.setRegs (loadedWords s.mem s.cfg.bigEndian a regs)) := by
  have hall := transfer_loads regs h [] []
  rw [List.append_nil, List.nil_append] at hall
  rw [State.multi, hall]
  rfl

/-! ### Stores -/

theorem rangeRegs_eq_map (ry n : Nat) : rangeRegs ry n = (List.range (n + 1)).map (ry + ·) := List.range'_eq_map_range

theorem rangeRegs_length (ry n : Nat) : (rangeRegs ry n).length = n + 1 := List.length_range'

/-- STM and STQ, where every word of the range can be stored. -/
theorem storeRange_completes {s : State} {i : Instr} {ry rx n : Nat} (hi : exec i s = s.storeRange ry rx n)
    (hup : goesDown i = false) (hall : ∀ k ≤ n, s.hasReg (ry + k) = true) (hrx : s.hasReg rx = true)
    (h : AllowedWords s (s.reg rx) (n + 1) .write (rx == 14)) :
    Completes i s (fun t => StoredWords s t (s.reg rx) ((rangeRegs ry n).map s.reg) ∧ SameRegs s t ∧
      t.psr = s.psr ∧ SameSaved s t ∧ SameControl s t ∧ t.pc = s.pc + 4) := by
  have hexist := rangeRegs_exist hall hrx
  rw [← rangeRegs_length ry n] at h
  obtain ⟨mem, held, old, stale, hrun, hstored⟩ := stores_complete (i := i) (fun t => .next (t.advance 4))
    (rangeRegs_few fun m hm => hexist m (List.mem_cons_of_mem _ hm)) h
  rw [State.timedXfers, hup, if_neg Bool.false_ne_true] at hrun
  exact ⟨_, (hi.trans (storeRange_eq_multi hexist)).trans hrun, hstored, sameRegs_refl s, rfl, ⟨rfl, rfl⟩,
    by constructor <;> rfl, rfl⟩

/-- PUSH and IPUSH, where every word below SP can be stored. -/
theorem pushRegs_completes {s : State} {i : Instr} {regs : List Nat} {a : Word} (hi : exec i s = s.pushRegs regs)
    (hdown : goesDown i = true) (ha : a = s.sp - BitVec.ofNat 32 (4 * regs.length)) (hfew : regs.length ≤ 16)
    (h : AllowedWords s a regs.length .write true) :
    Completes i s (fun t => StoredWords s t a (regs.map s.reg) ∧ t.reg 14 = a ∧ RegsExcept s t [14] ∧
      t.psr = s.psr ∧ SameSaved s t ∧ SameControl s t ∧ t.pc = s.pc + 2) := by
  obtain ⟨mem, held, old, stale, hrun, hstored⟩ := stores_complete (i := i)
    (fun t => .next ((t.setReg 14 (s.spDown regs.length)).advance 2)) hfew h
  rw [ha, push_timedXfers hdown] at hrun
  exact ⟨_, hi.trans hrun, hstored, (reg_setReg_same { s with mem, held, old, stale } 14 _ rfl).trans ha.symm,
    setReg_regsExcept { s with mem, held, old, stale } 14 _, rfl, ⟨rfl, rfl⟩, by constructor <;> rfl, rfl⟩

/-- The list of PUSH and POP as their statements write it. -/
theorem listRegs_eq (r15 list1 : Nat) :
    listRegs r15 list1 = (List.range list1).map (· + 4) ++ (if r15 = 1 then [15] else []) := by
  simp only [listRegs, List.range'_eq_map_range, Nat.add_comm 4]

/-- Settles O33: the transfers of each, all allowed, leave the registers' words in memory. -/
theorem multiStoreResults : Obligations.multi_store_results := by
  intro s ry rx n r15 list1 _ hl
  refine ⟨fun hall hrx h => ?_, fun hrx h => ?_, fun regs a hregs ha h => ?_, fun hn h => ?_⟩
  · have hcompletes := storeRange_completes (i := .stm32 ry rx n) rfl rfl hall hrx h
    rwa [rangeRegs_eq_map, List.map_map] at hcompletes
  · exact storeRange_completes (i := .stq32 rx) (ry := 4) (n := 3) rfl rfl (fun k hk => hasReg_of_lt (by omega)) hrx h
  · obtain rfl : listRegs r15 list1 = regs := (listRegs_eq r15 list1).trans hregs.symm
    exact pushRegs_completes (withRegs_of_all _ _ _ (listRegs_exist hl)) rfl ha (listRegs_few hl) h
  · exact pushRegs_completes (regs := ipushRegs) (by rw [exec, execIpush16, hn, requires_configured]) rfl rfl (by decide) h

/-! ### Loads -/

/-- Each register of a range that was loaded holds its word of memory. -/
theorem reg_setRegs_loadedWords {s : State} {regs : List Nat} (a : Word) {j : Nat} (hnodup : regs.Nodup)
    (hexist : ∀ m ∈ regs, s.hasReg m = true) (hj : j < regs.length) :
    (s.setRegs (loadedWords s.mem s.cfg.bigEndian a regs)).reg regs[j] =
      s.mem.load s.cfg.bigEndian (a + BitVec.ofNat 32 (4 * j)) .word :=
  reg_setRegs_mem (by rwa [loadedWords_regs]) (mem_loadedWords _ _ a hj) (hexist _ (List.getElem_mem hj))

theorem setRegs_loadedWords_regsExcept (s : State) (a : Word) (regs : List Nat) :
    RegsExcept s (s.setRegs (loadedWords s.mem s.cfg.bigEndian a regs)) regs := by
  have h := setRegs_regsExcept (loadedWords s.mem s.cfg.bigEndian a regs) s
  rwa [loadedWords_regs] at h

/-- What is written to registers is all that changes. -/
theorem setRegs_frames (ps : List (Nat × Word)) (s : State) :
    (s.setRegs ps).psr = s.psr ∧ SameSaved s (s.setRegs ps) ∧ SameControl s (s.setRegs ps) ∧
      SameMemory s (s.setRegs ps) ∧ (s.setRegs ps).pc = s.pc := by
  obtain ⟨_, _, _, _, _, _, _, _, _, e⟩ := setRegs_frame ps s
  rw [e]
  exact ⟨rfl, ⟨rfl, rfl⟩, by constructor <;> rfl, fun _ => rfl, rfl⟩

/-- LDM and LDQ, where every word of the range can be read. -/
theorem loadRange_completes {s : State} {i : Instr} {ry rx n : Nat} (hi : exec i s = s.loadRange ry rx n)
    (hall : ∀ k ≤ n, s.hasReg (ry + k) = true) (hrx : s.hasReg rx = true) (hout : rx < ry ∨ ry + n < rx)
    (h : AllowedWords s (s.reg rx) (n + 1) .read (rx == 14)) :
    Completes i s (fun t =>
      (∀ k ≤ n, t.reg (ry + k) = s.mem.load s.cfg.bigEndian (s.reg rx + BitVec.ofNat 32 (4 * k)) .word) ∧
      RegsExcept s t (rangeRegs ry n) ∧
      t.psr = s.psr ∧ SameSaved s t ∧ SameControl s t ∧ SameMemory s t ∧ t.pc = s.pc + 4) := by
  have hexist := rangeRegs_exist hall hrx
  have hcontains : (rangeRegs ry n).contains rx = false := by
    rw [List.contains_eq_mem, decide_eq_false_iff_not, mem_rangeRegs]
    omega
  rw [← rangeRegs_length ry n] at h
  obtain ⟨hpsr, hsaved, hctl, hmem, hpc⟩ := setRegs_frames (loadedWords s.mem s.cfg.bigEndian (s.reg rx) (rangeRegs ry n)) s
  refine ⟨_, (hi.trans (loadRange_eq_multi hexist hcontains)).trans (loads_complete _ h), fun k hk => ?_,
    setRegs_loadedWords_regsExcept s (s.reg rx) (rangeRegs ry n), hpsr, hsaved,
    sameControl_trans hctl (by constructor <;> rfl), hmem, congrArg (· + 4) hpc⟩
  have hloaded := reg_setRegs_loadedWords (s := s) (s.reg rx) (rangeRegs_nodup ry n)
    (fun m hm => hexist m (List.mem_cons_of_mem _ hm)) (show k < (rangeRegs ry n).length by rw [rangeRegs_length]; omega)
  simpa only [rangeRegs, List.getElem_range', Nat.one_mul, advance_reg] using hloaded

/-- After a pop of registers other than R14: each holds its word of memory, R14 is above them, and nothing else has
changed. -/
theorem pop_leaves {s t : State} {regs : List Nat} {sp : Word}
    (ht : t = (s.setRegs (loadedWords s.mem s.cfg.bigEndian s.sp regs)).setReg 14 sp) (hnodup : regs.Nodup)
    (hexist : ∀ m ∈ regs, s.hasReg m = true) (h14 : 14 ∉ regs) :
    (∀ k (h : k < regs.length), t.reg regs[k] = s.mem.load s.cfg.bigEndian (s.sp + BitVec.ofNat 32 (4 * k)) .word) ∧
      t.reg 14 = sp ∧ RegsExcept s t (14 :: regs) ∧ t.psr = s.psr ∧ SameSaved s t ∧ SameControl s t ∧
      SameMemory s t ∧ t.pc = s.pc := by
  obtain ⟨hothers, hbanks⟩ := setRegs_loadedWords_regsExcept s s.sp regs
  obtain ⟨hpsr, hsaved, hctl, hmem, hpc⟩ := setRegs_frames (loadedWords s.mem s.cfg.bigEndian s.sp regs) s
  subst ht
  refine ⟨fun k hk => ?_, reg_setReg_same _ 14 sp rfl, ⟨fun n hn => ?_, fun b hb => ?_⟩, hpsr, hsaved,
    sameControl_trans hctl (by constructor <;> rfl), hmem, hpc⟩
  · have hne : regs[k] ≠ 14 := fun e => h14 (e ▸ List.getElem_mem hk)
    rw [reg_setReg_other _ _ _ _ hne]
    exact reg_setRegs_loadedWords s.sp hnodup hexist hk
  · rw [List.mem_cons, not_or] at hn
    rw [reg_setReg_other _ _ _ _ hn.1, hothers n hn.2]
  · rw [spOf_setReg_other _ _ _ _ (by rwa [setRegs_bank14]), hbanks b hb]

theorem listRegs_not_mem_fourteen {r15 list1 : Nat} (h : list1 ≤ 8) : 14 ∉ listRegs r15 list1 := by
  rw [mem_listRegs]
  omega

/-- Settles O34: the loads of each, all allowed, give the words in memory to the registers. -/
theorem multiLoadResults : Obligations.multi_load_results := by
  intro s ry rx n r15 list1 _ hl
  refine ⟨fun hall hrx hout h => ?_, fun hrx hout h => ?_, fun regs hregs h => ?_, fun hn h => ?_⟩
  · have hcompletes := loadRange_completes (i := .ldm32 ry rx n) rfl hall hrx hout h
    rwa [rangeRegs_eq_map] at hcompletes
  · have hcompletes := loadRange_completes (i := .ldq32 rx) (ry := 4) (n := 3) rfl
      (fun k hk => hasReg_of_lt (by omega)) hrx hout h
    obtain ⟨t, ht, hloaded, hrest⟩ := hcompletes
    exact ⟨t, ht, fun k hk => hloaded k (Nat.le_of_lt_succ hk), hrest⟩
  · obtain rfl : listRegs r15 list1 = regs := (listRegs_eq r15 list1).trans hregs.symm
    have hrun : exec (.pop16 r15 list1) s = s.multi true (loadXfers s.sp (listRegs r15 list1)) (fun t =>
        .next ((t.setReg 14 (s.spUp (listRegs r15 list1).length)).jump (t.reg 15))) :=
      withRegs_of_all _ _ _ (listRegs_exist hl)
    obtain ⟨hloaded, hsp, hothers, hpsr, hsaved, hctl, hmem, _⟩ := pop_leaves (s := s) (regs := listRegs r15 list1)
      (sp := s.spUp (listRegs r15 list1).length) rfl (listRegs_nodup hl) (listRegs_exist hl)
      (listRegs_not_mem_fourteen hl)
    exact ⟨_, hrun.trans (loads_complete _ h), hloaded, hsp, hothers, hpsr, hsaved,
      sameControl_trans hctl (by constructor <;> rfl), hmem, congrArg evenAddr (reg_setReg_other _ _ _ _ (by decide)).symm⟩
  · have hrun : exec .ipop16 s = s.multi true (loadXfers s.sp ipushRegs)
        (fun t => .next ((t.setReg 14 (s.spUp 6)).advance 2)) := by
      rw [exec, execIpop16, hn, requires_configured]
      rfl
    obtain ⟨t, ht⟩ : ∃ t, t = (s.setRegs (loadedWords s.mem s.cfg.bigEndian s.sp ipushRegs)).setReg 14 (s.spUp 6) :=
      ⟨_, rfl⟩
    have hnext := hrun.trans (loads_complete (regs := ipushRegs) _ h)
    rw [← ht] at hnext
    obtain ⟨hloaded, hsp, ⟨hothers, hbanks⟩, hpsr, hsaved, hctl, hmem, hpc⟩ := pop_leaves ht (by decide)
      (ipushRegs_exist s) (by decide)
    refine ⟨t.advance 2, hnext, hloaded, hsp, ⟨fun m hm => hothers m ?_, hbanks⟩, hpsr, hsaved,
      sameControl_trans hctl (by constructor <;> rfl), hmem, congrArg (· + 2) hpc⟩
    simp only [ipushRegs, List.mem_cons, List.not_mem_nil, or_false] at hm ⊢
    tauto

end Sys2Proof.Machine
end

section
/-! SUPPORT. The boundary between two instructions (60_exceptions.md rules R437 to R448): what is taken there, and
what a step does where the environment makes no move. -/

namespace Sys2Proof.Machine

/-- With no move of the environment left the core takes its own step. -/
theorem step_core {s : State} (h : s.moves = []) : step s = s.tick.coreStep none := by
  rw [step, State.stepBody, h]

section
variable {s : State} {v : BitVec 8}

/-- In the normal run state the core's step is at an instruction boundary. -/
theorem coreStep_normal (cut : Option Nat) (hrun : s.run = .normal) : s.coreStep cut = s.boundary cut := by
  simp only [State.coreStep, hrun]

/-- Low power without a request lasts (rule R465). -/
theorem coreStep_asleep (cut : Option Nat) (hrun : s.run = .stop ∨ s.run = .doze ∨ s.run = .wait) (hirq : s.irq = none) :
    s.coreStep cut = .next s := by
  rcases hrun with h | h | h <;> simp [State.coreStep, h, hirq]

/-- A request ends low power, at a boundary inside no instruction. -/
theorem coreStep_woken (cut : Option Nat) (hrun : s.run = .stop ∨ s.run = .doze ∨ s.run = .wait)
    (hirq : s.irq.isSome = true) : s.coreStep cut = State.boundary { s with run := .normal } none := by
  rcases hrun with h | h | h <;> simp only [State.coreStep, h, hirq, if_true]

/-- Debug mode and the violation state execute nothing (rules R461, R463). -/
theorem coreStep_halted (cut : Option Nat) (hrun : s.run = .debug ∨ s.run = .violation) : s.coreStep cut = .next s := by
  rcases hrun with h | h <;> simp only [State.coreStep, h]

/-- A pending address watch comes first, once exceptions are enabled (rule R437). -/
theorem boundary_watch (cut : Option Nat) (hdp : s.dpPending = true) (hee : s.psrEE = true) :
    s.boundary cut = State.takeException { s with dpPending := false } .addressWatch s.pc := by
  simp only [State.boundary, hdp, hee, Bool.and_self, if_true]

theorem deliverable_enabled (hirq : s.irq = some v) (hie : s.psrIE = true) (hee : s.psrEE = true) :
    s.deliverable = some v := by
  simp only [State.deliverable, hie, hee, Bool.and_self, if_true, hirq]

theorem deliverable_masked (h : s.psrIE = false ∨ s.psrEE = false) : s.deliverable = none := by
  rcases h with h | h <;> simp [State.deliverable, h]

/-- A request that is not masked is taken at the boundary (rule R441). -/
theorem boundary_interrupt (hdp : s.dpPending = false) (hirq : s.irq = some v) (hie : s.psrIE = true)
    (hee : s.psrEE = true) : s.boundary none = s.takeInterrupt v := by
  simp only [State.boundary, hdp, Bool.false_and, Bool.false_eq_true, if_false, deliverable_enabled hirq hie hee]

/-- Or inside the next instruction, where the environment has it come there (rule R445). -/
theorem boundary_cut (k : Nat) (hdp : s.dpPending = false) (hirq : s.irq = some v) (hie : s.psrIE = true)
    (hee : s.psrEE = true) : s.boundary (some k) = s.cutInstr v k := by
  simp only [State.boundary, hdp, Bool.false_and, Bool.false_eq_true, if_false, deliverable_enabled hirq hie hee]

/-- A request that is masked is not taken. -/
theorem boundary_masked (cut : Option Nat) (hdp : s.dpPending = false) (h : s.psrIE = false ∨ s.psrEE = false) :
    s.boundary cut = s.runInstr := by
  simp only [State.boundary, hdp, Bool.false_and, Bool.false_eq_true, if_false, deliverable_masked h]

theorem runInstr_decoded {i : Instr} (h : s.fetchInstr = .ok (.ok i)) : s.runInstr = exec i s.afterFetch := by
  simp only [State.runInstr, h]

/-- Interrupts and the address watch keep their vector whatever PSR.EE is (rules R425, R437). -/
theorem vectorFor_keeps (s : State) {c : Cause} (h : c.keepsVector = true) : s.vectorFor c = c.vector := by
  simp [State.vectorFor, h]

/-- So their entry is through that vector. -/
theorem takeException_entered {c : Cause} {ret w : Word} (hc : c.keepsVector = true)
    (h : VectorReads s c.vector ret w) :
    ∃ t, s.takeException c ret = .next t ∧ Entered s t c.vector ret w := by
  rw [State.takeException, vectorFor_keeps s hc]
  exact takeVector_entered s c.vector ret w h

end

end Sys2Proof.Machine
end

section
/-! SUPPORT. Multi-access instructions that stop part way: refused by the core, or left for an interrupt (48_multi.md
rule R360, 60_exceptions.md rule R445). -/

namespace Sys2Proof.Machine

/-! ### What part of an instruction leaves -/

/-- Registers loaded part way hold their old or their loaded value, and nothing else has changed. -/
theorem drawLoaded_loads_partDone {s : State} {regs : List Nat} (a : Word) (hnodup : regs.Nodup)
    (hexist : ∀ m ∈ regs, s.hasReg m = true) :
    PartDone s (s.drawLoaded (loadedWords s.mem s.cfg.bigEndian a regs)) regs a .read := by
  have hregs := loadedWords_regs s.mem s.cfg.bigEndian a regs
  have hdrawn := (map_drawn_regs s _).trans hregs
  rw [drawLoaded_eq_setRegs s (by rwa [hregs])]
  obtain ⟨_, _, _, hmem, _⟩ := setRegs_frames ((loadedWords s.mem s.cfg.bigEndian a regs).map s.drawn) s
  refine ⟨hmem, fun n hn _ => reg_setRegs_other _ (by rwa [hdrawn]),
    fun h14 => spOf_setRegs_of_not_mem _ (by rwa [hdrawn]), fun j hj _ => ?_⟩
  have hread := reg_setRegs_mem (s := s) (by rwa [hdrawn])
    (List.mem_map_of_mem (f := s.drawn) (mem_loadedWords s.mem s.cfg.bigEndian a hj)) (hexist _ (List.getElem_mem hj))
  by_cases hdraw : Config.freeBit s.free (2 ^ 34 + regs[j]) = true
  · exact .inr (hread.trans (if_pos hdraw))
  · exact .inl (hread.trans (if_neg hdraw))

/-- Transfers that are made, and no more, leave part of the instruction done. -/
theorem drawLoaded_partDone {s : State} {regs : List Nat} {a : Word} {kind : AccessKind} {mem : Memory}
    {loaded : List (Nat × Word)} (held old : List Span) (stale : List Stale) (hnodup : regs.Nodup)
    (hexist : ∀ m ∈ regs, s.hasReg m = true) (h : TransfersDone s regs a mem loaded kind) :
    PartDone s (State.drawLoaded { s with mem, held, old, stale } loaded) regs a kind := by
  cases kind with
  | write =>
    obtain ⟨rfl, hstored⟩ := h
    exact ⟨hstored, sameRegs_refl s⟩
  | read | fetch =>
    obtain ⟨rfl, rfl⟩ := h
    exact drawLoaded_loads_partDone (s := { s with held, old, stale }) a hnodup hexist

/-- A register other than R14 does not depend on the bank. -/
theorem reg_of_sameRegs {s t : State} (h : SameRegs s t) {n : Nat} (hn : n ≠ 14) : t.reg n = s.reg n := by
  obtain ⟨hr, hlr, _, hfp, htop, hbsp, hsvbr⟩ := h
  simp only [State.reg, if_neg hn, hr, hlr, hfp, htop, hbsp, hsvbr]

theorem sameRegs_trans {s t u : State} (h1 : SameRegs s t) (h2 : SameRegs t u) : SameRegs s u := by
  obtain ⟨hr, hlr, hsp, hfp, htop, hbsp, hsvbr⟩ := h1
  obtain ⟨hr', hlr', hsp', hfp', htop', hbsp', hsvbr'⟩ := h2
  exact ⟨hr'.trans hr, hlr'.trans hlr, fun b => (hsp' b).trans (hsp b), hfp'.trans hfp, htop'.trans htop,
    hbsp'.trans hbsp, hsvbr'.trans hsvbr⟩

theorem storedWords_of_sameMemory {s t u : State} {a : Word} {vs : List Word} (h : StoredWords s t a vs)
    (hmem : SameMemory t u) : StoredWords s u a vs :=
  ⟨fun k hk => (load_word_congr _ fun _ _ => hmem _).trans (h.1 k hk), fun x hx => (hmem x).trans (h.2 x hx)⟩

/-- What changes no register and no memory afterwards leaves it so. -/
theorem PartDone.trans {s t u : State} {regs : List Nat} {a : Word} {kind : AccessKind}
    (h : PartDone s t regs a kind) (hregs : SameRegs t u) (hmem : SameMemory t u) : PartDone s u regs a kind := by
  cases kind with
  | write => exact ⟨storedWords_of_sameMemory h.1 hmem, sameRegs_trans h.2 hregs⟩
  | read | fetch =>
    obtain ⟨hsame, hothers, hbanks, hloaded⟩ := h
    refine ⟨fun x => (hmem x).trans (hsame x), fun n hn h14 => (reg_of_sameRegs hregs h14).trans (hothers n hn h14),
      fun h14 b => (hregs.2.2.1 b).trans (hbanks h14 b), fun j hj h14 => ?_⟩
    rw [reg_of_sameRegs hregs h14]
    exact hloaded j hj h14

/-! ### Refused part way -/

/-- A transfer that the core's checks refuse ends the transfers, and changes nothing. -/
theorem transfer_refused {s : State} {x : Xfer} {kind : AccessKind} {sp : Bool} {e : Abort} (hkind : x.isOf kind)
    (ha : Width.word.aligned x.addr = true) (hcheck : s.checkAccess x.addr .word kind sp = .error e)
    (l : List (Nat × Word)) (xs : List Xfer) : s.transfer sp l (x :: xs) = ⟨s, l, some e⟩ := by
  cases x with
  | load n a =>
    subst hkind
    simp only [Xfer.addr] at ha hcheck
    rw [State.transfer, readData_aligned _ _ _ _ _ ha, State.readAligned, hcheck]
  | store v a =>
    subst hkind
    simp only [Xfer.addr] at ha hcheck
    rw [State.transfer, writeData_aligned _ _ _ _ _ _ ha, State.writeOnce, State.writeAligned, hcheck]

/-- An exception entry saves EPC and changes no register, no memory and no control register but its own. -/
theorem takeVector_leaves {s t : State} {vec : BitVec 8} {ret : Word} (h : s.takeVector vec ret = .next t) :
    SameRegs s t ∧ SameMemory s t ∧ SameControl s t ∧ t.epc = ret := by
  obtain ⟨psr, epsr, pc, stale, held, rfl⟩ := takeVector_frame s t vec ret h
  exact ⟨⟨rfl, rfl, fun b => by cases b <;> rfl, rfl, rfl, rfl, rfl⟩, fun _ => rfl, by constructor <;> rfl, rfl⟩

/-- What the registers drawn leave besides. -/
theorem drawLoaded_frames (s : State) (mem : Memory) (held old : List Span) (stale : List Stale)
    (loaded : List (Nat × Word)) :
    SameControl s (State.drawLoaded { s with mem, held, old, stale } loaded) ∧
      (State.drawLoaded { s with mem, held, old, stale } loaded).pc = s.pc ∧
      (State.drawLoaded { s with mem, held, old, stale } loaded).psr = s.psr := by
  obtain ⟨_, _, _, _, _, _, _, _, _, e⟩ := drawLoaded_frame loaded { s with mem, held, old, stale }
  rw [e]
  exact ⟨by constructor <;> rfl, rfl, rfl⟩

/-- The instruction stops at the transfer that is refused, with what the transfers before it leave. -/
theorem multi_refused {s t : State} {i : Instr} {regs : List Nat} {a : Word} {kind : AccessKind} {sp : Bool} {k : Nat}
    (hmulti : MakesTransfers s i regs a kind sp) (hexec : exec i s = .next t) (hk : k < regs.length)
    (ha : Width.word.aligned a = true) (hallowed : AllowedWords s (doneAddr i regs a k) k kind sp)
    (hcheck : s.checkAccess (nextAddr i regs a k) .word kind sp = .error (.raise .accessError)) :
    PartDone s t (doneRegs i regs k) (doneAddr i regs a k) kind ∧ t.epc = s.pc ∧ SameControl s t := by
  obtain ⟨x, xs, hsplit, haddr, hkind⟩ := timedXfers_split (s := s) (a := a) hmulti.direction hk
  have hlen := doneRegs_length (i := i) hk.le
  have hsub := doneRegs_sublist i regs k
  obtain ⟨mem, held, old, stale, loaded, hgo, hdone⟩ := transfer_timedXfers (v := s) (i := i)
    (regs := doneRegs i regs k) (a := doneAddr i regs a k) rfl hmulti.direction (hsub.length_le.trans hmulti.few)
    (by rwa [hlen])
  have hstop : s.transfer sp [] (s.timedXfers i regs a kind) =
      ⟨{ s with mem, held, old, stale }, loaded, some (.raise .accessError)⟩ := by
    rw [hsplit, hgo]
    refine transfer_refused hkind (by rw [haddr]; exact (nextAddr_aligned i regs a k).trans ha) ?_ loaded xs
    rw [checkAccess_marks, haddr, hcheck]
  obtain ⟨next, hruns⟩ := hmulti.executes
  obtain ⟨hctl, hpc, _⟩ := drawLoaded_frames s mem held old stale loaded
  have hraise : (State.drawLoaded { s with mem, held, old, stale } loaded).raise .accessError = .next t := by
    rw [← hexec, hruns, State.multi, hstop]
    rfl
  obtain ⟨hregs', hmem', hctl', hepc⟩ := takeVector_leaves hraise
  exact ⟨(drawLoaded_partDone held old stale (hmulti.nodup.sublist hsub)
      (fun m hm => hmulti.exist m (hsub.subset hm)) hdone).trans hregs' hmem', hepc.trans hpc,
    sameControl_trans hctl hctl'⟩

/-- NIE that is refused part way: its first store, of EPC, stays where it was made (rule R370). -/
theorem nie16_refused {s t : State} {k : Nat} (hexec : exec .nie16 s = .next t) (hn : s.cfg.nest = true)
    (hs : s.psrS = true) (hk : k < 2) (ha : Width.word.aligned s.sp = true)
    (hallowed : AllowedWords s (s.sp - BitVec.ofNat 32 (4 * k)) k .write true)
    (hcheck : s.checkAccess (s.sp - BitVec.ofNat 32 (4 * k) - 4) .word .write true = .error (.raise .accessError)) :
    StoredWords s t (s.sp - BitVec.ofNat 32 (4 * k)) ([s.epsr, s.epc].drop (2 - k)) ∧ SameRegs s t ∧
      t.epc = s.pc ∧ SameControl s t := by
  have hruns : ∀ u, s.transfer true [] s.nieXfers = ⟨u, [], some (.raise .accessError)⟩ →
      u.raise .accessError = .next t := by
    intro u hu
    rw [← hexec, exec, execNie16, hn, requires_configured, privileged_supervisor _ _ hs, State.multi, hu]
    rfl
  have ha4 : Width.word.aligned (s.sp - 4) = true := (aligned_sub (n := 4) _ rfl).trans ha
  have ha8 : Width.word.aligned (s.sp - 8) = true := (aligned_sub (n := 8) _ rfl).trans ha
  obtain rfl | rfl : k = 0 ∨ k = 1 := by omega
  · have htop : s.sp - BitVec.ofNat 32 (4 * 0) = s.sp := BitVec.sub_zero _
    rw [htop] at hcheck ⊢
    obtain ⟨hregs, hmem, hctl, hepc⟩ :=
      takeVector_leaves (hruns s (transfer_refused (x := .store s.epc (s.sp - 4)) rfl ha4 hcheck [] _))
    exact ⟨storedWords_of_sameMemory (storedWords_nil _ rfl) hmem, hregs, hepc, hctl⟩
  · have hnext : s.sp - BitVec.ofNat 32 (4 * 1) - 4 = s.sp - 8 := by bv_omega
    rw [hnext] at hcheck
    obtain ⟨hb, hfirst, _⟩ := allowedWords_succ hallowed
    obtain ⟨held, old, stale, hstore⟩ := transfer_store_allowed s.epc hb hfirst
    have hrefused := transfer_refused (x := .store s.epsr (s.sp - 8)) rfl ha8 ((checkAccess_marks s
      (s.mem.store s.cfg.bigEndian (s.sp - 4) s.epc .word) held old stale _ _ _ _).trans hcheck) [] []
    obtain ⟨hregs, hmem, hctl, hepc⟩ := takeVector_leaves (hruns _ ((hstore [] _).trans hrefused))
    exact ⟨storedWords_of_sameMemory (storedWords_cons (u := s) (by simp) rfl (storedWords_nil _ rfl)) hmem,
      sameRegs_trans (sameRegs_refl s) hregs, hepc, sameControl_trans (by constructor <;> rfl) hctl⟩

/-- NIR that is refused part way has changed nothing: it writes its registers after both loads (rule R371). -/
theorem nir16_refused {s t : State} {k : Nat} (hexec : exec .nir16 s = .next t) (hn : s.cfg.nest = true)
    (hs : s.psrS = true) (hk : k < 2) (ha : Width.word.aligned s.sp = true)
    (hallowed : AllowedWords s s.sp k .read true)
    (hcheck : s.checkAccess (s.sp + BitVec.ofNat 32 (4 * k)) .word .read true = .error (.raise .accessError)) :
    SameRegs s t ∧ t.epc = s.pc ∧ SameControl s t ∧ SameMemory s t := by
  have hread : s.readData (s.sp + BitVec.ofNat 32 (4 * k)) .word true true = .error (.raise .accessError) :=
    (readData_aligned _ _ _ _ _ ((aligned_add _ (Nat.mul_mod_right 4 k)).trans ha)).trans
      (readAligned_refused (.inl hcheck))
  have hraise : s.raise .accessError = .next t := by
    rw [← hexec, exec, execNir16, hn, requires_configured, privileged_supervisor _ _ hs]
    obtain rfl | rfl : k = 0 ∨ k = 1 := by omega
    · rw [show s.sp + BitVec.ofNat 32 (4 * 0) = s.sp from BitVec.add_zero _] at hread
      rw [hread]
      rfl
    · obtain ⟨hb, hfirst, _⟩ := allowedWords_succ hallowed
      simp only [readData_allowed _ _ _ true _ hfirst, afterRead_allowed _ _ _ true _ hfirst, landWrites_of_nil s hb,
        show s.readData (s.sp + 4) .word true true = _ from hread]
      rfl
  obtain ⟨hregs, hmem, hctl, hepc⟩ := takeVector_leaves hraise
  exact ⟨hregs, hepc, hctl, hmem⟩

/-- Settles O37: the transfers before the refused one are made, and the exception keeps what they leave. -/
theorem multiPartialExecution : Obligations.multi_partial_execution := by
  intro s t i k hexec
  refine ⟨fun regs a kind sp hmulti hk ha hallowed hcheck => ?_, ?_, ?_⟩
  · exact multi_refused (multiAccess_makesTransfers hmulti) hexec hk ha hallowed hcheck
  · rintro rfl
    exact nie16_refused hexec
  · rintro rfl
    exact nir16_refused hexec

/-! ### Left for an interrupt -/

/-- No general register, no PC and no mark on stored-to locations decides what an instruction access reads. -/
theorem fetchRead_registers (s : State) (r : Vector Word 14) (lr userSp spvSp intSp fpB top bsp svbr pc : Word)
    (stale : List Stale) (a : Word) (w : Width) :
    State.fetchRead { s with r, lr, userSp, spvSp, intSp, fpB, top, bsp, svbr, pc, stale } a w = s.fetchRead a w := by
  have hmpu : ∀ n, State.mpuRegion { s with r, lr, userSp, spvSp, intSp, fpB, top, bsp, svbr, pc, stale } a n =
      s.mpuRegion a n := by
    intro n
    induction n with
    | zero => rfl
    | succ n ih =>
      simp only [State.mpuRegion, ih]
      rfl
  have hcache : ∀ n, State.inCacheRegion { s with r, lr, userSp, spvSp, intSp, fpB, top, bsp, svbr, pc, stale } a n =
      s.inCacheRegion a n := by
    intro n
    induction n with
    | zero => rfl
    | succ n ih => simp only [State.inCacheRegion, ih]
  simp only [State.fetchRead, State.checkAccess, State.mpuCheck, hmpu, State.busRead, State.isCached, hcache]
  rfl

theorem fetchRead_jump (s : State) (target a : Word) (w : Width) :
    (s.jump target).fetchRead a w = s.fetchRead a w :=
  fetchRead_registers s s.r s.lr s.userSp s.spvSp s.intSp s.fpB s.top s.bsp s.svbr (evenAddr target) _ a w

/-- So the word of a vector is the same after a control transfer, and where the cache may hold more. -/
theorem vectorWord_after_jump {s : State} {vec : BitVec 8} {w : Word} (target : Word) (h : s.vectorWord vec = .ok w) :
    ((s.afterVector vec).jump target).vectorWord vec = .ok w := by
  obtain ⟨held, e, hheld⟩ := afterTransfer_holdsMore s (s.vectorAddr vec) .word .fetch false
  have haddr : (State.jump { s with held } target).vectorAddr vec = s.vectorAddr vec := rfl
  rw [State.afterVector, e, State.vectorWord, haddr, fetchRead_jump]
  exact fetchRead_held s held _ _ w hheld h

/-- And the same whatever the registers are. -/
theorem vectorReads_setRegs {s : State} {vec : BitVec 8} {ret w : Word} {ps : List (Nat × Word)}
    (h : VectorReads s vec ret w) : VectorReads (s.drawLoaded ps) vec ret w := by
  obtain ⟨r, lr, userSp, spvSp, intSp, fpB, top, bsp, svbr, e⟩ := drawLoaded_frame ps s
  rw [VectorReads, e]
  exact (fetchRead_registers (s.enter vec ret) r lr userSp spvSp intSp fpB top bsp svbr _ _ _ _).trans h

/-- With PSR.IC = 1 the instruction at PC makes the first of its transfers and is left for the interrupt (60_exceptions.md
rule R445). -/
theorem cutInstr_eq {s : State} {i : Instr} {v : BitVec 8} {k : Nat} {sp : Bool} {xs : List Xfer}
    (hfetch : s.fetchInstr = .ok (.ok i)) (hint : instrTransfers i s = some (sp, xs)) (hic : s.psrIC = true)
    (hpos : 0 < k) (hk : k < xs.length) (hgo : (s.afterFetch.transfer sp [] (xs.take k)).stop = none) :
    s.cutInstr v k = (s.afterFetch.transfer sp [] (xs.take k)).partialState.takeVector v s.pc := by
  simp only [State.cutInstr, hfetch, hint, hic, hpos, hk, decide_true, Bool.and_self, if_true, hgo,
    State.takeException, vectorFor_keeps _ (c := .interrupt v) rfl, Cause.vector]

/-- Fetching decides no transfer. -/
theorem partDone_held {s t : State} {held : List Span} {regs : List Nat} {a : Word} {kind : AccessKind}
    (h : PartDone { s with held } t regs a kind) : PartDone s t regs a kind := by
  cases kind <;> exact h

/-- The first transfers of an instruction that an interrupt may enter, made after its fetch, and what they leave. -/
theorem firstTransfers_partDone {s : State} {i : Instr} {regs : List Nat} {a : Word} {kind : AccessKind} {sp : Bool}
    {k : Nat} (hmulti : MakesTransfers s i regs a kind sp) (hk : k < regs.length)
    (hallowed : AllowedWords s (doneAddr i regs a k) k kind sp) :
    ∃ mem held old stale loaded,
      s.afterFetch.transfer sp [] ((s.timedXfers i regs a kind).take k) =
        ⟨{ s with mem, held, old, stale }, loaded, none⟩ ∧
      PartDone s (State.drawLoaded { s with mem, held, old, stale } loaded) (doneRegs i regs k) (doneAddr i regs a k)
        kind := by
  obtain ⟨held, hfetch, _⟩ := afterFetch_frame s
  have hlen := doneRegs_length (i := i) hk.le
  have hsub := doneRegs_sublist i regs k
  have hallowed' : AllowedWords { s with held } (doneAddr i regs a k) (doneRegs i regs k).length kind sp := by
    rw [hlen]
    exact allowedWords_marks s.mem held s.old s.stale hallowed
  obtain ⟨mem, held', old, stale, loaded, hgo, hdone⟩ := transfer_timedXfers (s := { s with held }) (v := s)
    (i := i) rfl hmulti.direction (hsub.length_le.trans hmulti.few) hallowed'
  have hall := hgo []
  rw [List.append_nil] at hall
  refine ⟨mem, held', old, stale, loaded, ?_, partDone_held (held := held) (drawLoaded_partDone held' old stale
    (hmulti.nodup.sublist hsub) (fun m hm => hmulti.exist m (hsub.subset hm)) hdone)⟩
  rw [hfetch, timedXfers_take hmulti.direction hk, hall]
  rfl

/-- The step of an interrupt that the environment has come inside the next instruction. -/
theorem step_cut {s : State} {k : Nat} {v : BitVec 8} {ms : List Move} (hmoves : s.moves = .cut k :: ms)
    (hrun : s.run = .normal) (hdp : s.dpPending = false) (hirq : s.irq = some v) (hie : s.psrIE = true)
    (hee : s.psrEE = true) : step s = State.cutInstr { s.tick with moves := ms } v k := by
  rw [step_move hmoves]
  exact (coreStep_normal (s := { s.tick with moves := ms }) (some k) hrun).trans
    (boundary_cut k hdp hirq hie hee)

/-- Settles O38: the transfers before the interrupt are made, and the entry keeps what they leave. -/
theorem interruptInsideMultiAccess : Obligations.interrupt_inside_multi_access := by
  intro s u i regs a kind sp k v ms hmoves hrun hdp hirq hie hee hic hu hfetch haccess hpos hk hallowed hvector
  have hmulti := multiAccess_makesTransfers haccess
  obtain ⟨mem, held, old, stale, loaded, hgo, hdone⟩ := firstTransfers_partDone hmulti hk hallowed
  obtain ⟨w, hw⟩ := hvector mem stale held old
  obtain ⟨hctl, hpc, hpsr⟩ := drawLoaded_frames u mem held old stale loaded
  obtain ⟨p, hp⟩ : ∃ p, p = State.drawLoaded { u with mem, held, old, stale } loaded := ⟨_, rfl⟩
  have hpc' : u.pc = s.pc := by rw [hu]; rfl
  have hpsr' : u.psr = s.psr := by rw [hu]; rfl
  have hreads : VectorReads p v s.pc w := by rw [hp]; exact vectorReads_setRegs hw
  have hstep : step s = p.takeVector v s.pc := by
    have hcut := cutInstr_eq (v := v) hfetch hmulti.interruptible (by rw [hu]; exact hic) hpos
      (by rwa [timedXfers_length]) (by rw [hgo])
    rw [step_cut hmoves hrun hdp hirq hie hee, ← hu, hcut, hgo, hp, ← hpc']
    rfl
  rw [← hp] at hdone hctl hpsr
  obtain ⟨t, ht, hepsr, hepc, hS, hvec, hee', hie', _, htpc, hregs, hctl', hmem⟩ := takeVector_entered p v s.pc w hreads
  have hword : t.vectorWord v = .ok w := by
    have htake := (takeVector_ok p v s.pc w hreads).symm.trans ht
    cases htake
    exact vectorWord_after_jump w hreads
  exact ⟨t, hstep.trans ht, hdone.trans hregs hmem, ⟨w, hword, htpc⟩, hepc, hepsr.trans (hpsr.trans hpsr'), hS, hvec,
    hee', hie', sameControl_trans hctl hctl'⟩

end Sys2Proof.Machine
end

section
/-! SUPPORT. The exceptions and interrupts that come at a boundary, the run states, and the debugger (60_exceptions.md
rules R437 to R465). -/

namespace Sys2Proof.Machine

/-! ### A misaligned access of the next instruction -/

/-- The instruction would take the misaligned access exception: a load or store with PSR.MM = 0, or a multi-access
instruction whatever PSR.MM is (20_memory.md rules R75, R79). -/
def MakesMisaligned (s : State) (i : Instr) : Prop :=
  (∃ a w k sp, dataAccess s i = some (a, w, k, sp) ∧ w.aligned a = false ∧ s.psrMM = false) ∨
    ∃ regs a k sp, multiAccess s i = some (regs, a, k, sp) ∧ regs ≠ [] ∧ Width.word.aligned a = false

/-- The access of a load or store of the table is the one that is looked for at the boundary. -/
theorem based_singleAccess {s : State} {rz rx off sc : Nat} {w w' : Width} {k k' : AccessKind} {a : Word} {sp : Bool}
    (h : dataAccess.based s rz rx off sc w k = some (a, w', k', sp)) (v : Option Word) :
    singleAccess.based s rz rx (s.baseOffset rx off sc) w v = some (a, w', sp, v) := by
  unfold dataAccess.based at h
  split at h
  · rename_i hregs
    cases h
    exact if_pos hregs
  · cases h

theorem byte_aligned (a : Word) : Width.byte.aligned a = true := by
  simp [Width.aligned, Width.bytes, Nat.mod_one]

theorem based_width {s : State} {rz rx off sc : Nat} {w w' : Width} {k k' : AccessKind} {a : Word} {sp : Bool}
    (h : dataAccess.based s rz rx off sc w k = some (a, w', k', sp)) : w = w' := by
  unfold dataAccess.based at h
  split at h <;> cases h
  rfl

theorem literalAddr_aligned (s : State) (off : Nat) : Width.word.aligned (s.literalAddr off) = true := by
  rw [State.literalAddr, clear_two_bits]
  exact alignDown_aligned .word _

theorem dataAccess_misaligns {s : State} {i : Instr} {a : Word} {w : Width} {k : AccessKind} {sp : Bool}
    (h : dataAccess s i = some (a, w, k, sp)) (ha : w.aligned a = false) :
    multiTransfers i s = none ∧ ∃ v, singleAccess i s = some (a, w, sp, v) := by
  unfold dataAccess at h
  split at h
  case h_1 | h_2 | h_3 | h_10 | h_11 =>
    rw [← based_width h, byte_aligned] at ha
    cases ha
  case h_17 | h_18 =>
    split at h
    · cases h
      rw [literalAddr_aligned] at ha
      cases ha
    · cases h
  case h_19 => cases h
  all_goals exact ⟨rfl, _, based_singleAccess h _⟩

/-- What multi-access instructions an interrupt may enter makes no difference here. -/
theorem multiTransfers_multiAccess {s : State} {i : Instr} {regs : List Nat} {a : Word} {k : AccessKind} {sp : Bool}
    (h : multiAccess s i = some (regs, a, k, sp)) : multiTransfers i s = instrTransfers i s := by
  unfold multiAccess at h
  split at h
  case h_9 => cases h
  all_goals rfl

/-- The first transfer is misaligned where the lowest address is. -/
theorem timedXfers_misaligned {s : State} {i : Instr} {regs : List Nat} {a : Word} {kind : AccessKind}
    (hdir : kind = .write ∨ kind = .read ∧ goesDown i = false) (hne : regs ≠ [])
    (ha : Width.word.aligned a = false) :
    ∃ x xs, s.timedXfers i regs a kind = x :: xs ∧ Width.word.aligned x.addr = false := by
  have hpos : 0 < regs.length := List.length_pos_iff.mpr hne
  obtain ⟨x, xs, hsplit, haddr, _⟩ := timedXfers_split (s := s) (a := a) hdir hpos
  have hnone : s.timedXfers i (doneRegs i regs 0) (doneAddr i regs a 0) kind = [] :=
    List.eq_nil_of_length_eq_zero ((timedXfers_length _ _ _ _ _).trans (doneRegs_length hpos.le))
  refine ⟨x, xs, by rw [hsplit, hnone, List.nil_append], ?_⟩
  rw [haddr, nextAddr_aligned, ha]

theorem makesMisaligned_misaligns {s : State} {i : Instr} (h : MakesMisaligned s i) : s.misaligns i = true := by
  rcases h with ⟨a, w, k, sp, hacc, ha, hmm⟩ | ⟨regs, a, k, sp, hacc, hne, ha⟩
  · obtain ⟨hmulti, v, hsingle⟩ := dataAccess_misaligns hacc ha
    simp [State.misaligns, hmulti, hsingle, ha, hmm]
  · have hmulti := multiAccess_makesTransfers hacc
    obtain ⟨x, xs, hfirst, hx⟩ := timedXfers_misaligned (s := s) hmulti.direction hne ha
    have htransfers := (multiTransfers_multiAccess hacc).trans hmulti.interruptible
    rw [hfirst] at htransfers
    simp [State.misaligns, htransfers, hx]

theorem makesMisaligned_traps {s : State} {i : Instr} (h : MakesMisaligned s i) : Traps i s 1 := by
  rcases h with ⟨a, w, k, sp, hacc, ha, hmm⟩ | ⟨regs, a, k, sp, hacc, hne, ha⟩
  · exact traps_of_stops (c := .misaligned) hacc rfl (stops_misaligned sp (dataAccess_kind hacc) ha hmm)
  · have hmulti := multiAccess_makesTransfers hacc
    obtain ⟨x, xs, hfirst, hx⟩ := timedXfers_misaligned (s := s) hmulti.direction hne ha
    obtain ⟨next, hruns⟩ := hmulti.executes
    rw [hfirst] at hruns
    exact traps_of_raise (c := .misaligned) rfl (hruns.trans (multi_misaligned next hx))

/-- What the cache may hold decides no access. -/
theorem makesMisaligned_held {s : State} {i : Instr} (held : List Span) (h : MakesMisaligned s i) :
    MakesMisaligned { s with held } i := by
  have hdata : dataAccess { s with held } i = dataAccess s i := rfl
  have hmulti : multiAccess { s with held } i = multiAccess s i := rfl
  rcases h with ⟨a, w, k, sp, hacc, h⟩ | ⟨regs, a, k, sp, hacc, h⟩
  · exact .inl ⟨a, w, k, sp, hdata.trans hacc, h⟩
  · exact .inr ⟨regs, a, k, sp, hmulti.trans hacc, h⟩

theorem entered_held {s t : State} {held : List Span} {vec : BitVec 8} {ret w : Word}
    (h : Entered { s with held } t vec ret w) : Entered s t vec ret w := by
  obtain ⟨hepsr, hepc, hS, hvec, hee, hie, hpsr, hpc, hregs, hctl, hmem⟩ := h
  exact ⟨hepsr, hepc, hS, hvec, hee, hie, hpsr, hpc, hregs, { hctl with }, hmem⟩

/-! ### Interrupts -/

section
variable {s : State} {v : BitVec 8}

/-- An interrupt is taken with the next instruction's address, where that instruction makes no misaligned access. -/
theorem takeInterrupt_entered {w : Word} (hnext : s.misalignedNext = false) (hw : VectorReads s v s.pc w) :
    ∃ t, s.takeInterrupt v = .next t ∧ Entered s t v s.pc w := by
  rw [State.takeInterrupt, hnext, if_neg Bool.false_ne_true]
  exact takeException_entered (c := .interrupt v) rfl hw

/-- Where it does, it runs and takes its own exception first (60_exceptions.md rule R448). -/
theorem takeInterrupt_misaligned {i : Instr} (hfetch : s.fetchInstr = .ok (.ok i)) (h : MakesMisaligned s i) :
    s.takeInterrupt v = exec i s.afterFetch := by
  have hnext : s.misalignedNext = true := by
    simp only [State.misalignedNext, hfetch, makesMisaligned_misaligns h]
  rw [State.takeInterrupt, hnext, if_pos rfl, runInstr_decoded hfetch]

theorem exec_misaligned_entered {i : Instr} {w : Word} (h : MakesMisaligned s i) (hee : s.psrEE = true)
    (hw : VectorReads s 1 s.pc w) : ∃ t, exec i s.afterFetch = .next t ∧ Entered s t 1 s.pc w := by
  obtain ⟨held, hfetch, hheld⟩ := afterFetch_frame s
  have hvec : syncVector { s with held } 1 = 1 := if_pos hee
  have htraps := makesMisaligned_traps (makesMisaligned_held held h) w
  rw [hvec] at htraps
  obtain ⟨t, ht, hentered⟩ := htraps (vectorReads_held s held 1 s.pc w hheld hw)
  exact ⟨t, by rw [hfetch, ht], entered_held hentered⟩

end

/-- Settles O52: at the boundary the request is taken, unless the next instruction's own misaligned access comes first or
the request is masked. -/
theorem interruptEntry : Obligations.interrupt_entry := by
  intro s v w hmoves hrun hdp hirq
  have hstep : step s = s.tick.boundary none := (step_core hmoves).trans (coreStep_normal none hrun)
  have htaken : s.psrIE = true → s.psrEE = true → step s = s.tick.takeInterrupt v :=
    fun hie hee => hstep.trans (boundary_interrupt hdp hirq hie hee)
  refine ⟨fun hie hee hnext hw => ?_, fun hie hee i hfetch h => ?_, fun hmask => hstep.trans (boundary_masked none hdp hmask)⟩
  · obtain ⟨t, ht, hentered⟩ := takeInterrupt_entered hnext hw
    exact ⟨t, (htaken hie hee).trans ht, hentered⟩
  · have hexec := (htaken hie hee).trans (takeInterrupt_misaligned hfetch h)
    refine ⟨hexec, fun hw => ?_⟩
    obtain ⟨t, ht, hentered⟩ := exec_misaligned_entered h hee hw
    exact ⟨t, hexec.trans ht, hentered⟩

/-! ### Low power -/

/-- Settles O54: a request ends low power at a boundary, where what comes is what comes at any boundary. -/
theorem lowPowerWaitsAndWakes : Obligations.low_power_waits_and_wakes := by
  intro s hmoves
  have hcore := step_core hmoves
  refine ⟨fun hrun => ⟨fun hirq => hcore.trans (coreStep_asleep none hrun hirq), fun hirq hdp hmask => ?_,
    fun u v w hu hirq hdp hie hee hnext hw => ?_, fun u i w hu hirq hdp hie hee hfetch h => ?_⟩,
    fun hrun => hcore.trans (coreStep_halted none hrun)⟩
  · exact (hcore.trans (coreStep_woken none hrun hirq)).trans (boundary_masked none hdp hmask)
  · subst hu
    have hwoken := hcore.trans (coreStep_woken none hrun (by rw [show s.tick.irq = some v from hirq]; rfl))
    obtain ⟨t, ht, hentered⟩ := takeInterrupt_entered hnext hw
    exact ⟨t, (hwoken.trans (boundary_interrupt hdp hirq hie hee)).trans ht, hentered⟩
  · subst hu
    obtain ⟨v, hv⟩ := Option.isSome_iff_exists.mp hirq
    have hexec := ((hcore.trans (coreStep_woken none hrun hirq)).trans (boundary_interrupt hdp hv hie hee)).trans
      (takeInterrupt_misaligned hfetch h)
    refine ⟨hexec, fun hw => ?_⟩
    obtain ⟨t, ht, hentered⟩ := exec_misaligned_entered h hee hw
    exact ⟨t, hexec.trans ht, hentered⟩

/-! ### The address watch -/

section
variable {s : State}

/-- A hit with exceptions enabled is taken at once (60_exceptions.md rule R422). -/
theorem addressWatch_taken (hrun : s.run = .normal) (hmbee : s.hadMbee = true) (hee : s.psrEE = true) :
    s.addressWatch = s.takeException .addressWatch s.pc := by
  simp [State.addressWatch, hrun, hmbee, hee]

/-- Else it is held pending (rule R437). -/
theorem addressWatch_held (hrun : s.run = .normal) (hmbee : s.hadMbee = true) (hee : s.psrEE = false) :
    s.addressWatch = .next { s with dpPending := true } := by
  simp [State.addressWatch, hrun, hmbee, hee]

end

/-- Settles O56: a hit is taken or held pending by PSR.EE, and a pending one is the first thing at a boundary. -/
theorem addressWatch : Obligations.address_watch := by
  intro s u w ms hrun
  refine ⟨fun hmoves hmbee hu => ⟨fun hee hw => ?_, fun hee => ?_⟩, fun hmoves hdp hee hu hw => ?_⟩
  · subst hu
    obtain ⟨t, ht, hentered⟩ := takeException_entered (c := .addressWatch) rfl hw
    exact ⟨t, ((step_move hmoves).trans (addressWatch_taken hrun hmbee hee)).trans ht, hentered⟩
  · subst hu
    exact (step_move hmoves).trans (addressWatch_held hrun hmbee hee)
  · subst hu
    obtain ⟨t, ht, hentered⟩ := takeException_entered (c := .addressWatch) rfl hw
    have hstep := ((step_core hmoves).trans (coreStep_normal none hrun)).trans (boundary_watch none hdp hee)
    exact ⟨t, hstep.trans ht, hentered⟩

/-! ### The violation state -/

/-- In the violation state nothing but a reset changes the run state, the PC or PSR (rule R463). -/
theorem applyMove_violation {s t : State} {m : Move} (hrun : s.run = .violation) (h : s.applyMove m = .next t)
    (hreset : m ≠ .reset) (hresetIn : ∀ k, m ≠ .resetIn k) : t.run = .violation ∧ t.pc = s.pc ∧ t.psr = s.psr := by
  have hsame : ∀ {u : State}, (.next u : Result) = .next t → u.run = s.run ∧ u.pc = s.pc ∧ u.psr = s.psr →
      t.run = .violation ∧ t.pc = s.pc ∧ t.psr = s.psr := by
    rintro u e ⟨hr, hpc, hpsr⟩
    cases e
    exact ⟨hr.trans hrun, hpc, hpsr⟩
  have hdebug : ∀ k, s.inDebug k ≠ .next t := by simp [State.inDebug, hrun]
  have hhalted : ∀ cut, s.coreStep cut = .next t → t.run = .violation ∧ t.pc = s.pc ∧ t.psr = s.psr :=
    fun cut hcore => hsame ((coreStep_halted cut (.inr hrun)).symm.trans hcore) ⟨rfl, rfl, rfl⟩
  cases m with
  | run => exact hhalted none h
  | cut k => exact hhalted (some k) h
  | reset => exact absurd rfl hreset
  | resetIn k => exact absurd rfl (hresetIn k)
  | irq v =>
    simp only [State.applyMove] at h
    split at h
    · exact hsame h ⟨rfl, rfl, rfl⟩
    · cases h
  | wake =>
    simp only [State.applyMove, State.inLowPower, hrun] at h
    exact hsame h ⟨rfl, rfl, rfl⟩
  | debugRequest =>
    simp only [State.applyMove, hrun, if_true] at h
    exact hsame h ⟨rfl, rfl, rfl⟩
  | watch =>
    simp only [State.applyMove, State.addressWatch, hrun] at h
    exact hsame h ⟨rfl, rfl, rfl⟩
  | memWrite a b =>
    obtain ⟨old, e⟩ := externalWrite_frame s a b
    simp only [State.applyMove, e] at h
    exact hsame h ⟨rfl, rfl, rfl⟩
  | answers gs =>
    obtain ⟨old, e⟩ := setAnswers_frame s gs
    simp only [State.applyMove, e] at h
    exact hsame h ⟨rfl, rfl, rfl⟩
  | gprReset =>
    simp only [State.applyMove] at h
    split at h
    · exact hsame h ⟨rfl, rfl, rfl⟩
    · cases h
  | violation =>
    simp only [State.applyMove, hrun, reduceCtorEq, if_false] at h
    split at h
    · cases h
    · exact hsame h ⟨hrun.symm, rfl, rfl⟩
  | debugResume | debugReg _ _ | debugCr _ _ _ | debugPc _ | debugMem _ _ | debugTcip _ _ | debugDp _ =>
    exact absurd h (hdebug _)
  | irqOff | gsr _ | hadFdb _ | hadMbee _ | between _ | onReset _ => exact hsame h ⟨rfl, rfl, rfl⟩

/-- The violation state lasts through every step but a reset. -/
theorem step_violation {s t : State} (hrun : s.run = .violation) (h : step s = .next t)
    (hreset : ∀ ms, s.moves ≠ .reset :: ms) (hresetIn : ∀ k ms, s.moves ≠ .resetIn k :: ms) :
    t.run = .violation ∧ t.pc = s.pc ∧ t.psr = s.psr := by
  cases hmoves : s.moves with
  | nil =>
    rw [step_core hmoves, coreStep_halted none (s := s.tick) (.inr hrun)] at h
    cases h
    exact ⟨hrun, rfl, rfl⟩
  | cons m ms =>
    rw [step_move hmoves] at h
    exact applyMove_violation (s := { s.tick with moves := ms }) hrun h (fun e => hreset ms (e ▸ hmoves))
      (fun k e => hresetIn k ms (e ▸ hmoves))

/-! ### The debugger -/

theorem inDebug_debug {s : State} (k : Result) (h : s.run = .debug) : s.inDebug k = k := if_pos h

/-- The debugger's write of PSR goes through the mask, and requests no reset. -/
theorem debugWriteCr_psr (s : State) (v : Word) : s.debugWriteCr 0 0 v = .next (s.setPsr v) := by
  rw [State.debugWriteCr, requestsReset_other (.inl (by decide)), if_neg Bool.false_ne_true]
  rfl

/-- Settles O55: each move of the debugger is one update, made in debug mode only. -/
theorem debugAndViolationStates : Obligations.debug_and_violation_states := by
  intro s u m ms
  refine ⟨fun t hrun h hreset hresetIn => step_violation hrun h hreset hresetIn, fun hrun hmoves hu => ?_⟩
  have hstep : ∀ {k : Result}, u.applyMove m = u.inDebug k → step s = k := by
    intro k hk
    rw [step_move hmoves, ← hu, hk, inDebug_debug k (by rw [hu]; exact hrun)]
  refine ⟨?_, ?_, ?_, ?_, ?_, ?_⟩
  · rintro n v rfl hn
    have hn' : u.hasReg n = true := by rw [hu]; exact hn
    refine ⟨u.setReg n v, (hstep rfl).trans (if_pos hn'), reg_setReg_same u n v hn', setReg_regsExcept u n v, ?_⟩
    subst hu
    exact ⟨rfl, ⟨rfl, rfl⟩, by constructor <;> rfl, fun _ => rfl, rfl⟩
  · rintro v rfl
    exact hstep rfl
  · rintro v rfl
    rw [hstep rfl, debugWriteCr_psr, State.setPsr, show u.cfg = s.cfg by rw [hu]; rfl]
  · rintro b rfl
    exact hstep rfl
  · rintro a b rfl
    obtain ⟨old, e⟩ := externalWrite_frame u a b
    refine ⟨_, (hstep rfl).trans (congrArg _ e), byteAt_setByte_same _ _ _, ?_⟩
    subst hu
    exact ⟨fun x hx => byteAt_setByte_other _ _ _ _ hx, ⟨rfl, rfl, fun b => by cases b <;> rfl, rfl, rfl, rfl, rfl⟩, rfl,
      ⟨rfl, rfl⟩, by constructor <;> rfl, rfl⟩
  · rintro rfl
    exact hstep rfl

end Sys2Proof.Machine
end

section
/-! SUPPORT. The binary-translation stack (48_multi.md rules R379 to R383): what a push and a pop make in binary
translation mode, by the way the comparison with the stack's bound goes. -/

namespace Sys2Proof.Machine

/-- The registers of the binary-translation stack exist with the option. -/
theorem hasReg_bsp {s : State} (hb : s.cfg.bct = true) : s.hasReg 25 = true := by simp [State.hasReg, hb]

theorem bctPush_overflow {s : State} {rz : Nat} {w : Width} (hb : s.cfg.bct = true) (hbm : s.psrBM = true)
    (hr : s.hasReg rz = true) (hover : s.top.toNat < s.bsp.toNat + w.bytes) : s.bctPush rz w = s.bctOverflow := by
  rw [State.bctPush, hb, requires_configured, withRegs_one _ hr, if_neg (by simp [hbm]), if_pos hover]

theorem bctPop_overflow {s : State} {rz : Nat} {w : Width} (hb : s.cfg.bct = true) (hbm : s.psrBM = true)
    (hr : s.hasReg rz = true) (hover : s.bsp.toNat < s.fpB.toNat + w.bytes) : s.bctPop rz w = s.bctOverflow := by
  rw [State.bctPop, hb, requires_configured, withRegs_one _ hr, if_neg (by simp [hbm]), if_pos hover]

/-- An overflow calls SVBR - 12. -/
theorem bctOverflow_completes {i : Instr} {s : State} (h : exec i s = s.bctOverflow) :
    Completes i s (Links s · (s.pc + 2) ((s.reg 30 - 12) &&& 0xFFFFFFFE)) :=
  ⟨_, h, link_links s (s.pc + 2) (s.svbr - 12)⟩

/-- Two register writes change those two registers only, and no bank of R14 but the one R14 names. -/
theorem setReg_setReg_regsExcept (s : State) (m n : Nat) (v w : Word) :
    RegsExcept s ((s.setReg n v).setReg m w) [m, n] := by
  refine ⟨fun k hk => ?_, fun b hb => ?_⟩
  · obtain ⟨hm, hn⟩ : k ≠ m ∧ k ≠ n := by simpa using hk
    rw [reg_setReg_other _ m k w hm, reg_setReg_other s n k v hn]
  · rw [spOf_setReg_other _ m w b (by rwa [setReg_bank14]), spOf_setReg_other s n v b hb]

theorem bctPush_completes {i : Instr} {s : State} {rz : Nat} {w : Width} (hi : exec i s = s.bctPush rz w)
    (hb : s.cfg.bct = true) (hbm : s.psrBM = true) (hr : s.hasReg rz = true)
    (hroom : s.bsp.toNat + w.bytes ≤ s.top.toNat) (ha : Allowed s s.bsp w .write false) :
    Completes i s (fun t => Stored s t s.bsp w (s.reg rz) ∧ t.reg 25 = s.bsp + BitVec.ofNat 32 w.bytes ∧
      RegsExcept s t [25] ∧ t.psr = s.psr ∧ SameSaved s t ∧ SameControl s t ∧ t.pc = s.pc + 2) := by
  obtain ⟨held, old, stale, hwrite⟩ := writeData_allowed_frame (multi := false) (s.reg rz) ha
  rw [State.bctPush, hb, requires_configured, withRegs_one _ hr, if_neg (by simp [hbm]), if_neg (by omega),
    hwrite] at hi
  exact ⟨_, hi, stored_of_mem rfl, reg_setReg_same _ 25 _ (hasReg_bsp hb), setReg_regsExcept _ 25 _, rfl, ⟨rfl, rfl⟩,
    by constructor <;> rfl, rfl⟩

theorem bctPop_completes {i : Instr} {s : State} {rz : Nat} {w : Width} (hi : exec i s = s.bctPop rz w)
    (hb : s.cfg.bct = true) (hbm : s.psrBM = true) (hrz : rz < 8)
    (hroom : s.fpB.toNat + w.bytes ≤ s.bsp.toNat) (ha : Allowed s (s.bsp - BitVec.ofNat 32 w.bytes) w .read false) :
    Completes i s (fun t => t.reg rz = s.mem.load s.cfg.bigEndian (s.bsp - BitVec.ofNat 32 w.bytes) w ∧
      t.reg 25 = s.bsp - BitVec.ofNat 32 w.bytes ∧ RegsExcept s t [rz, 25] ∧ t.psr = s.psr ∧ SameSaved s t ∧
      SameControl s t ∧ SameMemory s t ∧ t.pc = s.pc + 2) := by
  have hr : s.hasReg rz = true := hasReg_of_lt (by omega)
  rw [State.bctPop, hb, requires_configured, withRegs_one _ hr, if_neg (by simp [hbm]), if_neg (by omega),
    readData_allowed _ _ _ _ _ ha, afterRead_allowed _ _ _ _ _ ha] at hi
  exact ⟨_, hi, reg_setReg_same _ rz _ hr,
    (reg_setReg_other _ rz 25 _ (by omega)).trans (reg_setReg_same s 25 _ (hasReg_bsp hb)),
    setReg_setReg_regsExcept s rz 25 _ _, rfl, ⟨rfl, rfl⟩, by constructor <;> rfl, fun _ => rfl, rfl⟩

/-- Settles O39: in binary translation mode the comparison with the bound alone decides, and without overflow there is
one access and BSP moves. -/
theorem binaryTranslationStackResults : Obligations.binary_translation_stack_results := by
  intro s rz hb hbm hrz
  have hr : s.hasReg rz = true := hasReg_of_lt (by omega)
  refine ⟨fun i w hi => ?_, fun i w hi => ?_⟩
  · have hexec : exec i s = s.bctPush rz w := by obtain ⟨rfl, rfl⟩ | ⟨rfl, rfl⟩ := hi <;> rfl
    refine ⟨fun hover => bctOverflow_completes (hexec.trans (bctPush_overflow hb hbm hr hover)),
      bctPush_completes hexec hb hbm hr⟩
  · have hexec : exec i s = s.bctPop rz w := by obtain ⟨rfl, rfl⟩ | ⟨rfl, rfl⟩ := hi <;> rfl
    refine ⟨fun hover => bctOverflow_completes (hexec.trans (bctPop_overflow hb hbm hr hover)),
      bctPop_completes hexec hb hbm hrz⟩

end Sys2Proof.Machine
end
